-- ==== Sys2Proof/Word.lean ====
section
/-! DEFINITION. The byte and the pixel: the two kinds of value the block moves (spec/10_state R10, spec/20_memory R30). -/

namespace Sys2Proof

/-- One byte of a stream, or one colour channel: 8 bits (R5, R30). -/
abbrev Byte := BitVec 8

/-- "4 unsigned 8-bit channel values (r,g,b,a)" (R10). Two pixels are equal when all four channels are (R98). -/
structure Pixel where
  r : Byte
  g : Byte
  b : Byte
  a : Byte
  deriving DecidableEq, Repr, Inhabited

end Sys2Proof
end

