-- ==== Sys2Proof/Config.lean ====
section
/-! DEFINITION. What the hardware fixes (spec/00_scope R5), the value sets of the control registers (spec/10_state R21, R23),
and the free values: constants without a body, for every register content the spec leaves unspecified. -/

namespace Sys2Proof

/-- MODE, one bit (R21): the command that runs. -/
inductive Mode where
  | encode
  | decode
  deriving DecidableEq, Repr, Inhabited

/-- The bit that stands for a mode: 0 for Encode, 1 for Decode (R21). -/
def Mode.code : Mode → BitVec 1
  | .encode => 0
  | .decode => 1

/-- PHASE, three bits (R21): where the sequencer stands. -/
inductive Phase where
  | idle
  | hdr
  | pix
  | trl
  | done
  | fault
  deriving DecidableEq, Repr, Inhabited

/-- The number of a phase: IDLE, HDR, PIX, TRL, DONE, FAULT are 0 to 5 in that order (R21). -/
def Phase.code : Phase → BitVec 3
  | .idle => 0
  | .hdr => 1
  | .pix => 2
  | .trl => 3
  | .done => 4
  | .fault => 5

/-- CAUSE, two bits (R23, R140): how a command ended. -/
inductive Cause where
  | none
  | badMagic
  | badTrailer
  | streamExhausted
  deriving DecidableEq, Repr, Inhabited

/-- The CAUSE code (R23): 0 None, 1 BadMagic, 2 BadTrailer, 3 StreamExhausted. -/
def Cause.code : Cause → BitVec 2
  | .none => 0
  | .badMagic => 1
  | .badTrailer => 2
  | .streamExhausted => 3

namespace Config

/-- The magic "q","o","i","f" as bytes (R51). The byte values are ASCII, which the spec supplies itself (its G1; log entry 9). -/
def magic : List Byte := [0x71, 0x6f, 0x69, 0x66]

/-- The trailer, "fixed 8-byte sequence {0,0,0,0,0,0,0,1}" (R52). -/
def trailer : List Byte := [0, 0, 0, 0, 0, 0, 0, 1]

/-- The longest run one RUN chunk carries (R5, R64). -/
def runLimit : Nat := 62

/-- The colour PREV holds when a command starts, in both modes (R5, R25). -/
def initialPrev : Pixel := ⟨0, 0, 0, 255⟩

/-- The colour every history slot holds when a command starts (R5, R25). -/
def emptySlot : Pixel := ⟨0, 0, 0, 0⟩

/-- The alpha of a raw pixel that has none (R11, R100). -/
def opaqueAlpha : Byte := 255

/-! Free values (log entry 2). Each is applied to a counter of State, so two occasions give two values;
none has a body, so a statement about one holds for every value. -/

/-- PREV where the spec leaves it unspecified (R142). -/
opaque freePrev : Nat → Pixel

/-- HIST where the spec leaves it unspecified (R142). -/
opaque freeHist : Nat → Vector Pixel 64

/-- RUN where the spec leaves it unspecified (R142). -/
opaque freeRun : Nat → BitVec 6

/-- WIDTH where the spec leaves it unspecified (R77, R142). -/
opaque freeWidth : Nat → BitVec 32

/-- HEIGHT where the spec leaves it unspecified (R77, R142). -/
opaque freeHeight : Nat → BitVec 32

/-- CHANNELS where the spec leaves it unspecified (R77, R142). -/
opaque freeChannels : Nat → Byte

/-- COLORSPACE where the spec leaves it unspecified (R77, R142). -/
opaque freeColorspace : Nat → Byte

/-- NPIX where the spec leaves it unspecified (R26, R142). -/
opaque freeNpix : Nat → BitVec 64

/-- PXI where the spec leaves it unspecified (R142). -/
opaque freePxi : Nat → BitVec 64

/-- MODE where the spec leaves it unspecified (R142). -/
opaque freeMode : Nat → Mode

/-- SUCCESS where the spec leaves it unspecified (R22). -/
opaque freeSuccess : Nat → Bool

/-- CAUSE where the spec leaves it unspecified (R22, R26). -/
opaque freeCause : Nat → Cause

end Config

end Sys2Proof
end

