-- ==== Sys2Proof/Syntax.lean ====
section
/-! DEFINITION. The instructions: one constructor for each row of spec/opcode_table.json, with the operands of the listing
syntax (spec/30_encoding R67, R68). -/

namespace Sys2Proof

/-- One record of a stream. The six chunks, the two fixed records and the two raw pixel formats (R50). -/
inductive Instr where
  /-- `RGB r, g, b` (R56). -/
  | rgb (r g b : Byte)
  /-- `RGBA r, g, b, a` (R57). -/
  | rgba (r g b a : Byte)
  /-- `INDEX i`, i a slot number 0..63 (R58). -/
  | index (i : BitVec 6)
  /-- `DIFF dr, dg, db`, each delta in −2..1 (R59). -/
  | diff (dr dg db : Int)
  /-- `LUMA dg, dr_dg, db_dg`, dg in −32..31 and the other two in −8..7 (R60). -/
  | luma (dg drDg dbDg : Int)
  /-- `RUN n`, n the run length 1..62 (R61). -/
  | run (n : Nat)
  /-- `HEADER w, h, c, s` (R51). -/
  | header (w h : BitVec 32) (c s : Byte)
  /-- `END`, the trailer record (R52). -/
  | trailer
  /-- `PIXEL r, g, b`, format RAW3 (R53). -/
  | pixel3 (r g b : Byte)
  /-- `PIXEL r, g, b, a`, format RAW4 (R53). -/
  | pixel4 (r g b a : Byte)
  deriving DecidableEq, Repr

end Sys2Proof
end

