-- ==== Sys2Proof/WellFormed.lean ====
section
/-! DEFINITION. Which instructions have an encoding: the operand ranges of spec/30_encoding R59, R60, R61, R67. -/

namespace Sys2Proof

/-- Every operand lies in the range the listing syntax gives it (R67). Operands held in a bit vector of the field's own
width need no check. -/
def Instr.wf : Instr → Bool
  | .rgb _ _ _ => true
  | .rgba _ _ _ _ => true
  | .index _ => true
  | .diff dr dg db =>
    decide (-2 ≤ dr ∧ dr ≤ 1) && decide (-2 ≤ dg ∧ dg ≤ 1) && decide (-2 ≤ db ∧ db ≤ 1)
  | .luma dg drDg dbDg =>
    decide (-32 ≤ dg ∧ dg ≤ 31) && decide (-8 ≤ drDg ∧ drDg ≤ 7) && decide (-8 ≤ dbDg ∧ dbDg ≤ 7)
  | .run n => decide (1 ≤ n ∧ n ≤ 62)
  | .header _ _ _ _ => true
  | .trailer => true
  | .pixel3 _ _ _ => true
  | .pixel4 _ _ _ _ => true

/-- The six chunks, the records the decoder dispatches by tag (R55). -/
def Instr.isChunk : Instr → Bool
  | .rgb _ _ _ => true
  | .rgba _ _ _ _ => true
  | .index _ => true
  | .diff _ _ _ => true
  | .luma _ _ _ => true
  | .run _ => true
  | .header _ _ _ _ => false
  | .trailer => false
  | .pixel3 _ _ _ => false
  | .pixel4 _ _ _ _ => false

end Sys2Proof
end

