-- ==== Sys2Proof/Decode.lean ====
section
/-! DEFINITION. The decoder (spec/30_encoding, the tag dispatch of spec/43_decoder_dispatcher R121, the header and trailer
checks of spec/40_sequencer_header_trailer R78, R79, R82), the encoder, and the reading of a word of spec/opcode_table.json.

Which kind of record stands at the cursor is not in its bytes: MODE, PHASE and CHANNELS say it (the table's "position").
The decoder takes that as its first argument. -/

namespace Sys2Proof

/-- What the sequencer expects at the input cursor. -/
inductive Site where
  /-- Decode, PHASE = HDR (R78, R79). -/
  | header
  /-- Decode, PHASE = PIX, RUN = 0 (R121). -/
  | chunk
  /-- Decode, PHASE = TRL (R82). -/
  | trailer
  /-- Encode, PHASE = PIX, CHANNELS ≠ 4 (R100). -/
  | raw3
  /-- Encode, PHASE = PIX, CHANNELS = 4 (R100). -/
  | raw4
  deriving DecidableEq, Repr

/-- Why no record could be read: the three failures of the block (R140). -/
inductive Reject where
  /-- The stream ended (R142). The argument is how many bytes the reads before the failing one consumed. -/
  | short (consumed : Nat)
  /-- The four magic bytes are wrong (R141). -/
  | badMagic
  /-- The eight trailer bytes are wrong (R145). -/
  | badTrailer
  deriving DecidableEq, Repr

/-- What the decoder answers: an instruction and the bytes after it, or a named rejection. -/
inductive Decoded where
  | ok (i : Instr) (rest : List Byte)
  | reject (r : Reject)
  deriving DecidableEq, Repr

/-- `v[lo + n − 1 : lo]`, the n bits of a byte from bit lo upwards, as an unsigned number (spec/00_scope section 6.1). -/
def bits (v : Byte) (lo n : Nat) : Nat := v.toNat / 2 ^ lo % 2 ^ n

/-- A 32-bit value from its four bytes, most significant first (R36). -/
def be32 (b0 b1 b2 b3 : Byte) : BitVec 32 :=
  BitVec.ofNat 32 (b0.toNat * 2 ^ 24 + b1.toNat * 2 ^ 16 + b2.toNat * 2 ^ 8 + b3.toNat)

/-- The four bytes of a 32-bit value, most significant first (R36). -/
def be32Bytes (v : BitVec 32) : List Byte :=
  [BitVec.ofNat 8 (v.toNat / 2 ^ 24), BitVec.ofNat 8 (v.toNat / 2 ^ 16), BitVec.ofNat 8 (v.toNat / 2 ^ 8),
    BitVec.ofNat 8 v.toNat]

/-- The length in bytes of an instruction's record (R50, R53, R54). -/
def Instr.length : Instr → Nat
  | .rgb _ _ _ => 4
  | .rgba _ _ _ _ => 5
  | .index _ => 1
  | .diff _ _ _ => 1
  | .luma _ _ _ => 2
  | .run _ => 1
  | .header _ _ _ _ => 14
  | .trailer => 8
  | .pixel3 _ _ _ => 3
  | .pixel4 _ _ _ _ => 4

/-- One chunk (R54, R55): the two 8-bit tags first, then the two top bits of T, so every byte selects exactly one arm.
Biased fields are taken off their bias here (R62). -/
def decodeChunk : List Byte → Decoded
  | [] => .reject (.short 0)
  | t :: rest =>
    if t = 0xfe then
      match rest with
      | r :: g :: b :: rest' => .ok (.rgb r g b) rest'
      | _ => .reject (.short (1 + rest.length))
    else if t = 0xff then
      match rest with
      | r :: g :: b :: a :: rest' => .ok (.rgba r g b a) rest'
      | _ => .reject (.short (1 + rest.length))
    else if bits t 6 2 = 0b00 then .ok (.index (BitVec.ofNat 6 (bits t 0 6))) rest
    else if bits t 6 2 = 0b01 then
      .ok (.diff ((bits t 4 2 : Int) - 2) ((bits t 2 2 : Int) - 2) ((bits t 0 2 : Int) - 2)) rest
    else if bits t 6 2 = 0b10 then
      match rest with
      | n :: rest' =>
        .ok (.luma ((bits t 0 6 : Int) - 32) ((bits n 4 4 : Int) - 8) ((bits n 0 4 : Int) - 8)) rest'
      | [] => .reject (.short 1)
    else .ok (.run (bits t 0 6 + 1)) rest

/-- Where, from the header's first byte, the first read fails when only n bytes follow the magic: the two 4-byte reads
consume nothing when they fail (R142), the two 1-byte reads follow them (R79). -/
def headerStop (n : Nat) : Nat :=
  if n < 4 then 4 else if n < 8 then 8 else if n < 9 then 12 else 13

/-- Header bytes 4 to 13 (R51, R79). No value is rejected (R65). -/
def decodeFields : List Byte → Decoded
  | w0 :: w1 :: w2 :: w3 :: h0 :: h1 :: h2 :: h3 :: c :: s :: rest =>
    .ok (.header (be32 w0 w1 w2 w3) (be32 h0 h1 h2 h3) c s) rest
  | bs => .reject (.short (headerStop bs.length))

/-- A header: the magic is read whole and compared before any other field is consumed (R78). -/
def decodeHeader : List Byte → Decoded
  | m0 :: m1 :: m2 :: m3 :: rest =>
    if [m0, m1, m2, m3] = Config.magic then decodeFields rest else .reject .badMagic
  | bs => .reject (.short bs.length)

/-- A trailer: all eight bytes are read, then compared (R82). -/
def decodeTrailer (bs : List Byte) : Decoded :=
  if bs.length < 8 then .reject (.short bs.length)
  else if bs.take 8 = Config.trailer then .ok .trailer (bs.drop 8)
  else .reject .badTrailer

/-- A RAW3 pixel (R53, R100). -/
def decodeRaw3 : List Byte → Decoded
  | r :: g :: b :: rest => .ok (.pixel3 r g b) rest
  | bs => .reject (.short bs.length)

/-- A RAW4 pixel (R53, R100). -/
def decodeRaw4 : List Byte → Decoded
  | r :: g :: b :: a :: rest => .ok (.pixel4 r g b a) rest
  | bs => .reject (.short bs.length)

/-- The record at the head of the bytes, of the kind the sequencer expects. -/
def decode : Site → List Byte → Decoded
  | .header, bs => decodeHeader bs
  | .chunk, bs => decodeChunk bs
  | .trailer, bs => decodeTrailer bs
  | .raw3, bs => decodeRaw3 bs
  | .raw4, bs => decodeRaw4 bs

/-- The site at which an instruction's record is read. -/
def Instr.site : Instr → Site
  | .rgb _ _ _ => .chunk
  | .rgba _ _ _ _ => .chunk
  | .index _ => .chunk
  | .diff _ _ _ => .chunk
  | .luma _ _ _ => .chunk
  | .run _ => .chunk
  | .header _ _ _ _ => .header
  | .trailer => .trailer
  | .pixel3 _ _ _ => .raw3
  | .pixel4 _ _ _ _ => .raw4

/-- The bytes of an instruction's record, first byte first (R51 to R53, R56 to R62). -/
def encode : Instr → List Byte
  | .rgb r g b => [0xfe, r, g, b]
  | .rgba r g b a => [0xff, r, g, b, a]
  | .index i => [BitVec.ofNat 8 i.toNat]
  | .diff dr dg db => [BitVec.ofInt 8 (0x40 + (dr + 2) * 16 + (dg + 2) * 4 + (db + 2))]
  | .luma dg drDg dbDg => [BitVec.ofInt 8 (0x80 + (dg + 32)), BitVec.ofInt 8 ((drDg + 8) * 16 + (dbDg + 8))]
  | .run n => [BitVec.ofNat 8 (0xc0 + (n - 1))]
  | .header w h c s => Config.magic ++ be32Bytes w ++ be32Bytes h ++ [c, s]
  | .trailer => Config.trailer
  | .pixel3 r g b => [r, g, b]
  | .pixel4 r g b a => [r, g, b, a]

/-! Words of spec/opcode_table.json (log entry 12). -/

/-- The first n bytes of a table word, its bits 7..0 the first byte. -/
def tableBytes (n w : Nat) : List Byte := (List.range n).map fun k => BitVec.ofNat 8 (w / 256 ^ k)

/-- The number the table gives for the magic: "stream bytes 0..3 taken as one big-endian 32-bit value". -/
def tableMagic : Nat := 0x716f6966

/-- The same four bytes with byte 0 as bits 7..0. -/
def tableMagicLow : Nat := 0x66696f71

/-- Which kind of record a table word of that many bits is, and its bytes. The lengths tell the raw pixels (24 and 32 bits)
and the records (32 or 112 bits with the magic, 64 bits) from the chunks; HEADER's and END's numbers are big-endian in the
table, so their first word is laid out most significant byte first. -/
def tableRecord (nbits w : Nat) : Site × List Byte :=
  let low := tableBytes ((nbits + 7) / 8) w
  if nbits = 24 then (.raw3, low)
  else if nbits = 64 then (.trailer, if w = 1 then Config.trailer else low)
  else if (nbits = 32 ∨ nbits = 112) ∧ w % 2 ^ 32 = tableMagic then (.header, Config.magic ++ low.drop 4)
  else if (nbits = 32 ∨ nbits = 112) ∧ w % 2 ^ 32 = tableMagicLow then (.header, low)
  else if nbits = 32 ∧ w % 256 ≠ 0xfe then (.raw4, low)
  else (.chunk, low)

/-- The bytes with operand bytes of zero after them, up to the longest record (14 bytes). -/
def padded (bs : List Byte) : List Byte := bs ++ List.replicate (14 - bs.length) 0

/-- The instruction the decoder reads from a table word. -/
def decodeTableWord (nbits w : Nat) : Option Instr :=
  match decode (tableRecord nbits w).1 (padded (tableRecord nbits w).2) with
  | .ok i _ => some i
  | .reject _ => none

end Sys2Proof
end

