-- ==== Sys2Proof/Machine/State.lean ====
section
/-! DEFINITION. The state of the block, of the two streams and of the host's coming moves, as plain data; the reasons a step
can stop; and the state after power-on (spec/10_state, spec/20_memory R30 to R32, spec/70_reset_and_hazards R161). -/

namespace Sys2Proof.Machine

/-- What the host may do between commands (R16, R70, R77, R85, R164). A start brings the input stream with it: "IN is
modelled as a finite sequence of bytes ... fixed before the command starts" (R31). -/
inductive HostMove where
  | writeWidth (v : BitVec 32)
  | writeHeight (v : BitVec 32)
  | writeChannels (v : Byte)
  | writeColorspace (v : Byte)
  /-- Start Encode; the argument is the raw stream. -/
  | startEncode (raw : List Byte)
  /-- Start Decode; the argument is the encoded stream. -/
  | startDecode (stream : List Byte)
  deriving DecidableEq, Repr

/-- Everything the spec gives the machine. -/
@[ext]
structure State where
  /-- PREV, the previous pixel (R10). -/
  prev : Pixel
  /-- HIST, the 64-slot colour history (R12). -/
  hist : Vector Pixel 64
  /-- RUN, the run counter (R14). -/
  run : BitVec 6
  /-- WIDTH (R16). -/
  width : BitVec 32
  /-- HEIGHT (R16). -/
  height : BitVec 32
  /-- CHANNELS (R16). -/
  channels : Byte
  /-- COLORSPACE (R16). -/
  colorspace : Byte
  /-- NPIX, the number of pixels of the image (R18). -/
  npix : BitVec 64
  /-- PXI, the index of the pixel the step handles (R20). -/
  pxi : BitVec 64
  /-- IPOS, the number of bytes read from IN (R19). -/
  ipos : Nat
  /-- OPOS, the number of bytes written to OUT (R19). -/
  opos : Nat
  /-- MODE (R21). -/
  mode : Mode
  /-- PHASE (R21). -/
  phase : Phase
  /-- SUCCESS, the block's only flag (R22). -/
  success : Bool
  /-- CAUSE (R23). -/
  cause : Cause
  /-- The value StreamExhausted records: IPOS at the failing read (R140, R142); kept until the next one (log entry 21). -/
  failPos : Nat
  /-- IN, the input stream, whole (R31). -/
  input : List Byte
  /-- OUT, the output stream, oldest byte first (R32). -/
  output : List Byte
  /-- The model's own: the host's coming moves, next first (log entry 4). -/
  pending : List HostMove
  /-- The model's own: which free value is taken next (log entry 2). -/
  freeIdx : Nat
  deriving DecidableEq, Repr

/-- Why a step stops. -/
inductive Fault where
  /-- Raised by `step` when PHASE = FAULT and the host has no move left: "a model must treat it as a fault" (R142). The
  argument is the recorded IPOS. Safe: nothing follows, so nothing can be concluded (log entry 3). -/
  | streamExhausted (pos : Nat)
  deriving DecidableEq, Repr

/-- Why an instruction has no meaning. -/
inductive Refusal where
  /-- Raised by `exec` for an instruction that has no meaning yet; no arm does. Safe: the machine stops. -/
  | notModelled (mnemonic : String)
  deriving DecidableEq, Repr

/-- Power-on (R26, R161): PHASE = IDLE. The spec gives no other register a value; the values here are the model's (log
entry 1), the command-start values of R25 where there are any. -/
def State.reset : State where
  prev := Config.initialPrev
  hist := Vector.replicate 64 Config.emptySlot
  run := 0
  width := 0
  height := 0
  channels := 0
  colorspace := 0
  npix := 0
  pxi := 0
  ipos := 0
  opos := 0
  mode := .encode
  phase := .idle
  success := false
  cause := .none
  failPos := 0
  input := []
  output := []
  pending := []
  freeIdx := 0

end Sys2Proof.Machine
end

