-- ==== Sys2Proof/Machine/Flags.lean ====
section
/-! DEFINITION. The status registers SUCCESS and CAUSE (spec/10_state R22, R23): the block's only flag and its cause. No
chunk, no arithmetic and no cache operation touches them. -/

namespace Sys2Proof.Machine

/-- SUCCESS as a function of CAUSE: "SUCCESS = 1 exactly when CAUSE = 0" (R23). -/
def successOf (c : Cause) : Bool := decide (c = .none)

/-- The end of a command writes SUCCESS and CAUSE together (R23). -/
def State.report (s : State) (c : Cause) : State := { s with success := successOf c, cause := c }

/-- SUCCESS and CAUSE become unspecified when a command starts (R22, R70, R77), and so does NPIX until the header step (R26):
free values (log entry 2). -/
def State.forgetStatus (s : State) : State :=
  { s with
    success := Config.freeSuccess s.freeIdx
    cause := Config.freeCause s.freeIdx
    npix := Config.freeNpix s.freeIdx
    freeIdx := s.freeIdx + 1 }

end Sys2Proof.Machine
end

