-- ==== Sys2Proof/Machine/Operands.lean ====
section
/-! DEFINITION. The arithmetic both modes share (spec/41_hash_cache_delta): hash, deltas, range tests, reconstruction, and
the number of raw bytes of a pixel (spec/20_memory R47). -/

namespace Sys2Proof.Machine

/-- `wrap8(x)`, x modulo 256, for every integer x (R93). -/
def wrap8 (x : Int) : Byte := BitVec.ofInt 8 x

/-- `sext_8(v)`, the byte read as an 8-bit two's-complement number (R94; log entry 9). -/
def sext8 (v : Byte) : Int := v.toInt

/-- `in_range(x, lo, hi)`, both bounds inclusive (R95). -/
def inRange (x lo hi : Int) : Bool := decide (lo ≤ x ∧ x ≤ hi)

/-- The spec's `hash(p)`, the slot number of a pixel (R90): the sum over the integers, modulo 64. -/
def slotOf (p : Pixel) : BitVec 6 :=
  BitVec.ofNat 6 (p.r.toNat * 3 + p.g.toNat * 5 + p.b.toNat * 7 + p.a.toNat * 11)

/-- The encoder's delta from the channel q to the channel c, in −128..127 (R94). -/
def delta (c q : Byte) : Int := sext8 (wrap8 ((c.toNat : Int) - (q.toNat : Int)))

/-- The decoder's reconstruction of a channel from the old one and a delta (R96). -/
def applyDelta (q : Byte) (d : Int) : Byte := wrap8 ((q.toNat : Int) + d)

/-- The DIFF condition on the three deltas (R95, R107). -/
def diffFits (dr dg db : Int) : Bool := inRange dr (-2) 1 && inRange dg (-2) 1 && inRange db (-2) 1

/-- The LUMA condition on the three deltas; dr − dg and db − dg are plain integers (R95, R108). -/
def lumaFits (dr dg db : Int) : Bool :=
  inRange dg (-32) 31 && inRange (dr - dg) (-8) 7 && inRange (db - dg) (-8) 7

/-- BPP, raw bytes for each pixel: 4 when CHANNELS = 4, otherwise 3 (R47). -/
def bytesPerPixel (channels : Byte) : Nat := if channels = 4 then 4 else 3

/-- NPIX = WIDTH × HEIGHT, exact in 64 bits (R18). -/
def pixelCount (w h : BitVec 32) : BitVec 64 := BitVec.ofNat 64 (w.toNat * h.toNat)

end Sys2Proof.Machine
end

