-- ==== Sys2Proof/Machine/Ops.lean ====
section
/-! DEFINITION. The named operations on registers, history and streams, the command start, and taking a failure. Every
meaning is written over these. -/

namespace Sys2Proof.Machine

/-! Registers. -/

/-- `PREV <- p`, all four channels (R10, R116). -/
def State.setPrev (s : State) (p : Pixel) : State := { s with prev := p }

/-- `RUN <- v` (R14). -/
def State.setRun (s : State) (v : BitVec 6) : State := { s with run := v }

/-- `PXI <- v` (R20). -/
def State.setPxi (s : State) (v : BitVec 64) : State := { s with pxi := v }

/-- `NPIX <- v` (R18). -/
def State.setNpix (s : State) (v : BitVec 64) : State := { s with npix := v }

/-- `PHASE <- p` (R21). -/
def State.setPhase (s : State) (p : Phase) : State := { s with phase := p }

/-- `MODE <- m` (R21). -/
def State.setMode (s : State) (m : Mode) : State := { s with mode := m }

/-- WIDTH, HEIGHT, CHANNELS and COLORSPACE written together (R79). -/
def State.setParams (s : State) (w h : BitVec 32) (c k : Byte) : State :=
  { s with width := w, height := h, channels := c, colorspace := k }

/-- The position StreamExhausted records (R142). Only `raise` writes it, so it stays until the next StreamExhausted (DESIGN
CHOICE, log entry 21). -/
def State.setFailPos (s : State) (n : Nat) : State := { s with failPos := n }

/-- The host's coming moves. -/
def State.setPending (s : State) (q : List HostMove) : State := { s with pending := q }

/-! History (R12, R91, R92). -/

/-- `HIST[i]` (R91). -/
def State.lookup (s : State) (i : BitVec 6) : Pixel := s.hist[i.toNat]'i.isLt

/-- `HIST[i] <- p` (R92). -/
def State.store (s : State) (i : BitVec 6) (p : Pixel) : State := { s with hist := s.hist.set i.toNat p i.isLt }

/-- `HIST[hash(p)] <- p`, the only way the block stores (R92). -/
def State.remember (s : State) (p : Pixel) : State := s.store (slotOf p) p

/-! Streams (R30 to R35). -/

/-- The bytes of IN that have not been read (R31). -/
def State.ahead (s : State) : List Byte := s.input.drop s.ipos

/-- The cursor's move past n bytes that were read: "read and advance" (R19, R31). -/
def State.consume (s : State) (n : Nat) : State := { s with ipos := s.ipos + n }

/-- `MemWrite`: the bytes appended to OUT, OPOS moved by their number; it never fails (R32). -/
def State.write (s : State) (bs : List Byte) : State :=
  { s with output := s.output ++ bs, opos := s.opos + bs.length }

/-- The streams a command starts with: IN from its first byte, OUT empty, both cursors 0 (R25, R31, R32). -/
def State.openStreams (s : State) (bs : List Byte) : State :=
  { s with input := bs, ipos := 0, output := [], opos := 0 }

/-- A record marshalled to OUT (R71, R73, R104, R106 to R110, R129). -/
def State.emit (s : State) (i : Instr) : State := s.write (encode i)

/-! The pixel loop (R72, R80). -/

/-- The loop test: when PXI is no longer below NPIX, PHASE <- TRL (R72, R80). It stands at the end of the header step ("at once
when NPIX = 0") and of every pixel step, so that a command has exactly 1 + NPIX + 1 steps (R176). -/
def State.loopTest (s : State) : State := if s.pxi < s.npix then s else s.setPhase .trl

/-- The end of every pixel step: PXI <- PXI + 1 (R20), then the loop test. -/
def State.endPixel (s : State) : State := (s.setPxi (s.pxi + 1)).loopTest

/-- Pixel output (R129): r, g, b, and a only when CHANNELS = 4. -/
def State.emitPixel (s : State) : State :=
  if s.channels = 4 then s.emit (.pixel4 s.prev.r s.prev.g s.prev.b s.prev.a)
  else s.emit (.pixel3 s.prev.r s.prev.g s.prev.b)

/-- What follows the arm of a chunk in Decode, on all six arms: the store (R128), the output (R129), the end of the step
(R119). -/
def State.finishChunk (s : State) : State := ((s.remember s.prev).emitPixel).endPixel

/-! Values the spec leaves unspecified (log entry 2). -/

/-- The four parameters are unspecified from Decode's start (R77), and after BadMagic (R144). -/
def State.forgetParams (s : State) : State :=
  { s with
    width := Config.freeWidth s.freeIdx
    height := Config.freeHeight s.freeIdx
    channels := Config.freeChannels s.freeIdx
    colorspace := Config.freeColorspace s.freeIdx
    freeIdx := s.freeIdx + 1 }

/-- The codec state becomes unspecified when StreamExhausted is raised (R142). -/
def State.forgetCodec (s : State) : State :=
  { s with
    prev := Config.freePrev s.freeIdx
    hist := Config.freeHist s.freeIdx
    run := Config.freeRun s.freeIdx
    npix := Config.freeNpix s.freeIdx
    pxi := Config.freePxi s.freeIdx
    mode := Config.freeMode s.freeIdx
    freeIdx := s.freeIdx + 1 }

/-! Command start (R25, R70, R77, R162). -/

/-- The block's only reset of codec state, unconditional (R25). -/
def State.initCodec (s : State) : State :=
  { s with
    hist := Vector.replicate 64 Config.emptySlot
    prev := Config.initialPrev
    run := 0
    pxi := 0 }

/-- What both commands do when they start, with the mode and the stream of the command. The position an earlier
StreamExhausted recorded stays (DESIGN CHOICE, log entry 21: the spec does not say how long it is kept). -/
def State.startCommand (s : State) (m : Mode) (bs : List Byte) : State :=
  ((((s.setMode m).initCodec).openStreams bs).forgetStatus).setPhase .hdr

/-- Encode, command start (R70). The four parameters stay as they are: the host's values, or, where the host has written none
(against R70 and R164), what the registers hold (DESIGN CHOICE, log entry 19). -/
def State.startEncode (s : State) (raw : List Byte) : State := s.startCommand .encode raw

/-- Decode, command start (R77). -/
def State.startDecode (s : State) (stream : List Byte) : State := (s.forgetParams).startCommand .decode stream

/-! Command end and failures (R76, R82, R140 to R145). -/

/-- The command ends with that cause: SUCCESS, CAUSE and PHASE, nothing else (R150). -/
def State.finish (s : State) (c : Cause) (p : Phase) : State := (s.report c).setPhase p

/-- Taking a failure, the one operation for all three (R140). There is no handler, no vector and no return (R150, R151): its
effect is on SUCCESS, CAUSE and PHASE, after the bytes that were read have been consumed.

BadMagic (R143, R144): IPOS = 4, the four parameters unspecified. BadTrailer (R145): all 8 bytes consumed, everything else as
in a success. Both leave the position an earlier StreamExhausted recorded (DESIGN CHOICE, log entry 21). StreamExhausted (R142):
the failing read consumes nothing, IPOS there is recorded, OUT stays, all other state of the block is unspecified. -/
def raise (r : Reject) (s : State) : State :=
  match r with
  | .badMagic => ((s.consume 4).forgetParams).finish .badMagic .done
  | .badTrailer => (s.consume 8).finish .badTrailer .done
  | .short n =>
    (((s.consume n).setFailPos (s.ipos + n)).forgetParams.forgetCodec).finish .streamExhausted .fault

end Sys2Proof.Machine
end

