-- ==== Sys2Proof/Machine/Cache.lean ====
section
/-! DEFINITION. INDEX: the history chunk. -/

namespace Sys2Proof.Machine

/-- INDEX. Decode (R124): PREV <- HIST[i], alpha included, read before the step's store; a slot never stored to gives
(0,0,0,0). Encode (R104): the one byte, no store. -/
def execIndex (i : BitVec 6) (s : State) : Host.Outcome State Fault Refusal :=
  match s.mode with
  | .decode => .next (((s.consume 1).setPrev (s.lookup i)).finishChunk)
  | .encode => .next (s.emit (.index i))

end Sys2Proof.Machine
end

