-- ==== Sys2Proof/Machine/Delta.lean ====
section
/-! DEFINITION. DIFF and LUMA: the delta chunks. -/

namespace Sys2Proof.Machine

/-- A pixel moved by three deltas, each channel wrapping, alpha unchanged (R96). -/
def applyDeltas (q : Pixel) (dr dg db : Int) : Pixel := ⟨applyDelta q.r dr, applyDelta q.g dg, applyDelta q.b db, q.a⟩

/-- DIFF. Decode (R125): the three deltas added to PREV. Encode (R107): the one byte. -/
def execDiff (dr dg db : Int) (s : State) : Host.Outcome State Fault Refusal :=
  match s.mode with
  | .decode => .next (((s.consume 1).setPrev (applyDeltas s.prev dr dg db)).finishChunk)
  | .encode => .next (s.emit (.diff dr dg db))

/-- LUMA. Decode (R126): "r += dr_dg+dg, g += dg, b += db_dg+dg", alpha unchanged. Encode (R108): the two bytes. -/
def execLuma (dg drDg dbDg : Int) (s : State) : Host.Outcome State Fault Refusal :=
  match s.mode with
  | .decode => .next (((s.consume 2).setPrev (applyDeltas s.prev (drDg + dg) dg (dbDg + dg))).finishChunk)
  | .encode => .next (s.emit (.luma dg drDg dbDg))

end Sys2Proof.Machine
end

