-- ==== Sys2Proof/Machine/Literal.lean ====
section
/-! DEFINITION. RGB and RGBA: the literal chunks. In Decode the chunk at the cursor is executed; in Encode it is the chunk the
selector emits (log entry 6). -/

namespace Sys2Proof.Machine

/-- RGB. Decode (R122): r, g, b from the chunk, "alpha unchanged from previous". Encode (R109): the four bytes. -/
def execRgb (r g b : Byte) (s : State) : Host.Outcome State Fault Refusal :=
  match s.mode with
  | .decode => .next (((s.consume 4).setPrev ⟨r, g, b, s.prev.a⟩).finishChunk)
  | .encode => .next (s.emit (.rgb r g b))

/-- RGBA. Decode (R123): all four channels from the chunk, whatever CHANNELS is. Encode (R106): the five bytes. -/
def execRgba (r g b a : Byte) (s : State) : Host.Outcome State Fault Refusal :=
  match s.mode with
  | .decode => .next (((s.consume 5).setPrev ⟨r, g, b, a⟩).finishChunk)
  | .encode => .next (s.emit (.rgba r g b a))

end Sys2Proof.Machine
end

