-- ==== Sys2Proof/Machine/Encoder.lean ====
section
/-! DEFINITION. The encoder's opcode selector, one pixel step (spec/42_encoder_selector): the cascade of guards in its fixed
order (R117). -/

namespace Sys2Proof.Machine

/-- `emit_run()` for a run of n pixels (R110): the RUN chunk, then RUN <- 0. -/
def State.emitRunOf (s : State) (n : Nat) : State := (s.emit (.run n)).setRun 0

/-- `emit_run()` (R110) for the pending run. -/
def State.emitRun (s : State) : State := s.emitRunOf s.run.toNat

/-- Guard 1, a pixel equal to PREV (R102): the run counts, and is flushed when it reaches 62 or at the final pixel, PXI =
NPIX − 1. HIST is neither read nor written. -/
def State.countRun (s : State) : State :=
  let s' := s.setRun (s.run + 1)
  if s'.run.toNat = Config.runLimit ∨ s'.pxi.toNat + 1 = s'.npix.toNat then s'.emitRun else s'

/-- The start of guard 2 (R103): a pixel that differs from PREV flushes a pending run first. -/
def State.flushRun (s : State) : State := if 0 < s.run.toNat then s.emitRun else s

/-- Guards 4 to 6, with PREV's alpha (R107, R108, R109): DIFF, else LUMA, else RGB. -/
def codeDelta (p q : Pixel) : Instr :=
  let dr := delta p.r q.r
  let dg := delta p.g q.g
  let db := delta p.b q.b
  if diffFits dr dg db then .diff dr dg db
  else if lumaFits dr dg db then .luma dg (dr - dg) (db - dg)
  else .rgb p.r p.g p.b

/-- Guards 3 to 6, after a history miss: RGBA when the alpha changed (R106), else by the deltas. -/
def codeMiss (p q : Pixel) : Instr := if p.a ≠ q.a then .rgba p.r p.g p.b p.a else codeDelta p q

/-- Guard 2, a pixel that differs from PREV, its run flushed: INDEX on a hit, without a store (R104); on a miss the store
(R105), then the chunk. -/
def State.codePixel (s : State) (p : Pixel) : State :=
  if s.lookup (slotOf p) = p then s.emit (.index (slotOf p)) else (s.remember p).emit (codeMiss p s.prev)

/-- The cascade (R101, R117). All guards read the PREV of before the step. -/
def State.selectOpcode (s : State) (p : Pixel) : State :=
  if p = s.prev then s.countRun else s.flushRun.codePixel p

/-- The encoder pixel step for the fetched pixel (R101): the cascade, PREV <- P (R116), PXI + 1. -/
def State.encodePixel (s : State) (p : Pixel) : State := ((s.selectOpcode p).setPrev p).endPixel

end Sys2Proof.Machine
end

