-- ==== Sys2Proof/Machine/RawPixel.lean ====
section
/-! DEFINITION. PIXEL3 and PIXEL4: the raw pixels, read in Encode (the whole encoder pixel step) and written in Decode (the
pixel output of every decoder step). -/

namespace Sys2Proof.Machine

/-- PIXEL3. Encode (R100, R101): three bytes consumed, "alpha is implicitly 255 on input", the pixel step. Decode (R129): the
three bytes written. -/
def execPixel3 (r g b : Byte) (s : State) : Host.Outcome State Fault Refusal :=
  match s.mode with
  | .encode => .next ((s.consume 3).encodePixel ⟨r, g, b, Config.opaqueAlpha⟩)
  | .decode => .next (s.emit (.pixel3 r g b))

/-- PIXEL4. Encode (R100, R101): four bytes consumed, the pixel step. Decode (R129): the four bytes written. -/
def execPixel4 (r g b a : Byte) (s : State) : Host.Outcome State Fault Refusal :=
  match s.mode with
  | .encode => .next ((s.consume 4).encodePixel ⟨r, g, b, a⟩)
  | .decode => .next (s.emit (.pixel4 r g b a))

end Sys2Proof.Machine
end

