-- ==== Sys2Proof/Machine/Records.lean ====
section
/-! DEFINITION. HEADER and END: the two fixed records, each read in Decode and written in Encode
(spec/40_sequencer_header_trailer). -/

namespace Sys2Proof.Machine

/-- The end of both header steps (R71, R79): NPIX <- WIDTH × HEIGHT, PHASE <- PIX, then the loop test. -/
def State.enterPixels (s : State) (w h : BitVec 32) : State := ((s.setNpix (pixelCount w h)).setPhase .pix).loopTest

/-- HEADER. Decode (R79): the four parameters from bytes 4 to 13, none rejected. Encode (R71): the 14 bytes written; the
operands are the parameter registers, which the sequencer supplies. -/
def execHeader (w h : BitVec 32) (c k : Byte) (s : State) : Host.Outcome State Fault Refusal :=
  match s.mode with
  | .decode => .next (((s.consume 14).setParams w h c k).enterPixels w h)
  | .encode => .next ((s.emit (.header w h c k)).enterPixels w h)

/-- END. Decode (R82): the 8 bytes matched, the command ends well. Encode (R73, R76): the 8 bytes written, the command ends
well. -/
def execTrailer (s : State) : Host.Outcome State Fault Refusal :=
  match s.mode with
  | .decode => .next ((s.consume 8).finish .none .done)
  | .encode => .next ((s.emit .trailer).finish .none .done)

end Sys2Proof.Machine
end

