-- ==== Sys2Proof/Machine/Run.lean ====
section
/-! DEFINITION. RUN: the run chunk, and the run continuation of the decoder. -/

namespace Sys2Proof.Machine

/-- RUN with run length n. Decode (R127): RUN <- n − 1, the field; PREV unchanged; the store and the output run as after every
chunk. Encode (R110): the one byte, then RUN <- 0. -/
def execRun (n : Nat) (s : State) : Host.Outcome State Fault Refusal :=
  match s.mode with
  | .decode => .next (((s.consume 1).setRun (BitVec.ofNat 6 (n - 1))).finishChunk)
  | .encode => .next (s.emitRunOf n)

/-- A run continuation (R120): "no input byte consumed, no history update"; RUN - 1, then the output. -/
def State.continueRun (s : State) : State := ((s.setRun (s.run - 1)).emitPixel).endPixel

end Sys2Proof.Machine
end

