-- ==== Sys2Proof/Machine/Dispatch.lean ====
section
/-! DEFINITION. One arm for each row of spec/opcode_table.json, in the table's order. -/

namespace Sys2Proof.Machine

-- The meaning of each instruction, in both modes.
def exec (i : Instr) (s : State) : Host.Outcome State Fault Refusal :=
  match i with
  | .rgb r g b => Sys2Proof.Machine.execRgb r g b s
  | .rgba r g b a => Sys2Proof.Machine.execRgba r g b a s
  | .index k => Sys2Proof.Machine.execIndex k s
  | .diff dr dg db => Sys2Proof.Machine.execDiff dr dg db s
  | .luma dg drDg dbDg => Sys2Proof.Machine.execLuma dg drDg dbDg s
  | .run n => Sys2Proof.Machine.execRun n s
  | .header w h c k => Sys2Proof.Machine.execHeader w h c k s
  | .trailer => Sys2Proof.Machine.execTrailer s
  | .pixel3 r g b => Sys2Proof.Machine.execPixel3 r g b s
  | .pixel4 r g b a => Sys2Proof.Machine.execPixel4 r g b a s

end Sys2Proof.Machine
end

