-- ==== Sys2Proof/Machine/Sequencer.lean ====
section
/-! DEFINITION. The sequencer (spec/40_sequencer_header_trailer section 1): which move comes next, the host's moves, the fetch
at the input cursor, and the placing of one record where the next step fetches it. -/

namespace Sys2Proof.Machine

/-- What the machine does next. -/
inductive Move where
  /-- Execute this instruction. -/
  | run (i : Instr)
  /-- Go to this state: a host move, a run continuation, a failure taken, a phase left, or no move at all. -/
  | now (s : State)
  /-- Stop with this fault. -/
  | stop (f : Fault)

/-- One host move (R16, R70, R77). DESIGN CHOICE (log entry 19): a start of Encode is taken whether or not the host has written
the four parameters since power-on (R70 and R164 ask for it; the spec states no outcome without it), and the command then runs
on what the registers hold. -/
def State.hostMove (s : State) : HostMove → State
  | .writeWidth v => s.setParams v s.height s.channels s.colorspace
  | .writeHeight v => s.setParams s.width v s.channels s.colorspace
  | .writeChannels v => s.setParams s.width s.height v s.colorspace
  | .writeColorspace v => s.setParams s.width s.height s.channels v
  | .startEncode raw => s.startEncode raw
  | .startDecode stream => s.startDecode stream

/-- The record at the input cursor, of the kind the sequencer expects; a failure is taken at once (R78, R82, R100, R121). -/
def State.fetch (s : State) (site : Site) : Move :=
  match decode site s.ahead with
  | .ok i _ => .run i
  | .reject r => .now (raise r s)

/-- Which raw pixel format Encode reads (R53, R100). -/
def State.rawSite (s : State) : Site := if s.channels = 4 then .raw4 else .raw3

/-- The host's turn between commands (R85, R151): its next move, or `idle` when it has none. -/
def State.hostTurn (s : State) (idle : Move) : Move :=
  match s.pending with
  | [] => idle
  | m :: q => .now ((s.setPending q).hostMove m)

/-- One pixel step (R72, R80): in Encode the raw pixel; in Decode the run continuation when RUN > 0, before any read (R120),
else the chunk. -/
def State.pixelMove (s : State) : Move :=
  match s.mode with
  | .encode => s.fetch s.rawSite
  | .decode => if 0 < s.run.toNat then .now s.continueRun else s.fetch .chunk

/-- The next move, by PHASE and MODE. In IDLE and DONE with no host move the block waits (R161, R165); in FAULT it is a fault
(R142, log entry 3). -/
def nextMove (s : State) : Move :=
  match s.phase with
  | .idle => s.hostTurn (.now s)
  | .done => s.hostTurn (.now s)
  | .fault => s.hostTurn (.stop (.streamExhausted s.failPos))
  | .hdr =>
    match s.mode with
    | .encode => .run (.header s.width s.height s.channels s.colorspace)
    | .decode => s.fetch .header
  | .pix => if s.pxi < s.npix then s.pixelMove else .now (s.setPhase .trl)
  | .trl =>
    match s.mode with
    | .encode => .run .trailer
    | .decode => s.fetch .trailer

/-- The state in which the next step fetches the record that starts at IN's first byte, of that kind: the stream, its cursor,
and the MODE, PHASE, RUN, PXI, NPIX and CHANNELS under which the sequencer reads such a record (log entry 12). -/
def State.placeAt (s : State) (site : Site) (bs : List Byte) : State :=
  match site with
  | .header => { s with input := bs, ipos := 0, mode := .decode, phase := .hdr }
  | .chunk => { s with input := bs, ipos := 0, mode := .decode, phase := .pix, run := 0, pxi := 0, npix := 1 }
  | .trailer => { s with input := bs, ipos := 0, mode := .decode, phase := .trl }
  | .raw3 => { s with input := bs, ipos := 0, mode := .encode, phase := .pix, pxi := 0, npix := 1, channels := 3 }
  | .raw4 => { s with input := bs, ipos := 0, mode := .encode, phase := .pix, pxi := 0, npix := 1, channels := 4 }

/-- A table word placed where the next step fetches it. -/
def State.placeWord (s : State) (nbits w : Nat) : State :=
  s.placeAt (tableRecord nbits w).1 (padded (tableRecord nbits w).2)

end Sys2Proof.Machine
end

