-- ==== Sys2Proof/Machine/Step.lean ====
section
/-! DEFINITION. One step of the machine, and a table word placed where the next step fetches it. -/

namespace Sys2Proof.Machine

/-- One step: the sequencer's next move, an instruction run by `exec`. -/
def step (s : State) : Host.Outcome State Fault Refusal :=
  match nextMove s with
  | .run i => exec i s
  | .now s' => .next s'
  | .stop f => .fault f

/-- The state whose very next step runs the instruction of that table word (log entry 12). -/
def State.withFetchWord (s : State) (nbits w : Nat) : State := s.placeWord nbits w

end Sys2Proof.Machine
end

