-- ==== Sys2Proof/Safety.lean ====
section
/-! DEFINITION. The terms claims are stated in: when a command runs and when it has ended, its results, the invariants, and
what one step of each kind leaves behind, field by field. -/

namespace Sys2Proof.Machine

/-! The command. -/

/-- A command is running: PHASE is HDR, PIX or TRL (R85). -/
abbrev State.running (s : State) : Prop := s.phase = .hdr ∨ s.phase = .pix ∨ s.phase = .trl

/-- A command may be started: PHASE is IDLE, DONE or FAULT (R151). -/
abbrev State.ended (s : State) : Prop := s.phase = .idle ∨ s.phase = .done ∨ s.phase = .fault

/-- What the host may read when a command has ended (R165): nothing of HIST, PREV, RUN, PXI and NPIX. -/
structure Results where
  success : Bool
  cause : Cause
  width : BitVec 32
  height : BitVec 32
  channels : Byte
  colorspace : Byte
  out : List Byte
  deriving DecidableEq, Repr

/-- The results, "only then" when PHASE = DONE; PHASE = FAULT "is an end that is not a result" (R165). R85 and R165 name the
four parameter registers as read for Decode only; that the host may read them after Encode too is a DESIGN CHOICE (log entry
20). -/
def State.results (s : State) : Option Results :=
  if s.phase = .done then
    some ⟨s.success, s.cause, s.width, s.height, s.channels, s.colorspace, s.output⟩
  else none

/-- The next step is a pixel step of Decode that reads a chunk (R119, R121). -/
abbrev State.atChunk (s : State) : Prop :=
  s.phase = .pix ∧ s.mode = .decode ∧ s.pxi < s.npix ∧ s.run = 0

/-- The next step is a run continuation of Decode (R120). -/
abbrev State.atContinuation (s : State) : Prop :=
  s.phase = .pix ∧ s.mode = .decode ∧ s.pxi < s.npix ∧ s.run ≠ 0

/-- The next step is a pixel step of Encode (R101). -/
abbrev State.atRaw (s : State) : Prop := s.phase = .pix ∧ s.mode = .encode ∧ s.pxi < s.npix

/-! Invariants. -/

/-- The streams: IPOS does not pass the end of IN (R31), OPOS counts the bytes of OUT (R32). -/
abbrev State.StreamsWf (s : State) : Prop := s.ipos ≤ s.input.length ∧ s.opos = s.output.length

/-- Every slot i holds (0,0,0,0) or a pixel whose hash is i (R118 (d), R131 (c)). -/
def State.HistWf (s : State) : Prop := ∀ i, s.lookup i = Config.emptySlot ∨ slotOf (s.lookup i) = i

/-- Between the steps of a command the history has that form and RUN is in 0..61 (R118 (a), R131 (a)). -/
def State.CodecWf (s : State) : Prop := s.running → s.HistWf ∧ s.run.toNat ≤ 61

/-- The pixel loop (R18, R72, R80): NPIX is the pixel count from the header step on, PXI is below it in PIX and equal to it
in TRL. -/
def State.LoopWf (s : State) : Prop :=
  (s.phase = .hdr → s.pxi = 0) ∧
  (s.phase = .pix → s.npix.toNat = s.width.toNat * s.height.toNat ∧ s.pxi.toNat < s.npix.toNat) ∧
  (s.phase = .trl → s.npix.toNat = s.width.toNat * s.height.toNat ∧ s.pxi = s.npix)

/-- The status registers at the end of a command (R22, R23, R76, R140): SUCCESS exactly when CAUSE is None; DONE is never
StreamExhausted, FAULT always is, with IPOS recorded; an Encode command that is DONE succeeded. -/
def State.StatusWf (s : State) : Prop :=
  (s.phase = .done → (s.success = true ↔ s.cause = .none) ∧ s.cause ≠ .streamExhausted ∧
    (s.mode = .encode → s.success = true)) ∧
  (s.phase = .fault → s.success = false ∧ s.cause = .streamExhausted ∧ s.failPos = s.ipos)

/-- The encoder between steps (R11, R15, R118 (c), (e)): the last pixel is in its slot, or nothing has been stored and PREV is
still the initial colour; no run is pending at the trailer; without an alpha channel PREV's alpha is 255. -/
def State.EncoderWf (s : State) : Prop :=
  s.running → s.mode = .encode →
    ((s.prev = Config.initialPrev ∧ ∀ i, s.lookup i = Config.emptySlot) ∨ s.lookup (slotOf s.prev) = s.prev) ∧
    (s.channels ≠ 4 → s.prev.a = 255) ∧
    (s.phase = .hdr ∨ s.phase = .trl → s.run = 0)

/-- How far the streams have moved in a command (R39, R40, R41, R75, R79, R80). Encode: BPP bytes read for each pixel, and
at most five bytes written for each pixel after the 14 of the header. Decode: BPP bytes written for each pixel, at least 14
read. -/
def State.PositionsWf (s : State) : Prop :=
  (s.phase = .hdr → s.ipos = 0 ∧ s.opos = 0 ∧ s.run = 0 ∧ s.pxi = 0) ∧
  (s.phase = .pix ∨ s.phase = .trl →
    match s.mode with
    | .encode => s.ipos = s.pxi.toNat * bytesPerPixel s.channels ∧ 14 ≤ s.opos ∧
        s.opos + s.run.toNat ≤ 14 + 5 * s.pxi.toNat
    | .decode => s.opos = s.pxi.toNat * bytesPerPixel s.channels ∧ 14 ≤ s.ipos)

/-! What a step leaves behind. -/

/-- The raw bytes of a pixel (R47, R129): r, g, b, and a when CHANNELS = 4. -/
def rawBytes (channels : Byte) (p : Pixel) : List Byte :=
  if channels = 4 then [p.r, p.g, p.b, p.a] else [p.r, p.g, p.b]

/-- WIDTH, HEIGHT, CHANNELS and COLORSPACE are unchanged. -/
abbrev SameParams (s t : State) : Prop :=
  t.width = s.width ∧ t.height = s.height ∧ t.channels = s.channels ∧ t.colorspace = s.colorspace

/-- SUCCESS, CAUSE and the recorded position are unchanged. -/
abbrev SameStatus (s t : State) : Prop := t.success = s.success ∧ t.cause = s.cause ∧ t.failPos = s.failPos

/-- PREV, HIST and RUN are unchanged. -/
abbrev SameCodec (s t : State) : Prop := t.prev = s.prev ∧ t.hist = s.hist ∧ t.run = s.run

/-- IN, the host's coming moves and the free values are untouched. -/
abbrev SameSurroundings (s t : State) : Prop :=
  t.input = s.input ∧ t.pending = s.pending ∧ t.freeIdx = s.freeIdx

/-- IPOS moved past n bytes; OUT as it was. -/
abbrev ReadOnly (s t : State) (n : Nat) : Prop := t.ipos = s.ipos + n ∧ t.output = s.output ∧ t.opos = s.opos

/-- n bytes read, these bytes appended to OUT, nothing else of the streams changed. -/
abbrev Moved (s t : State) (n : Nat) (bs : List Byte) : Prop :=
  t.ipos = s.ipos + n ∧ t.output = s.output ++ bs ∧ t.opos = s.opos + bs.length

/-- The end of a pixel step: PXI + 1, and PHASE goes to TRL when that was the last pixel (R20, R72, R80). -/
abbrev NextPixel (s t : State) : Prop :=
  t.pxi = s.pxi + 1 ∧ t.phase = (if s.pxi + 1 < s.npix then s.phase else .trl) ∧ t.mode = s.mode ∧ t.npix = s.npix

/-- Slot k of the history became p, every other slot is as it was (R92). -/
abbrev Stored (s t : State) (k : BitVec 6) (p : Pixel) : Prop :=
  ∀ j, t.lookup j = if j = k then p else s.lookup j

/-- A decoder pixel step that read an n-byte chunk, resolved the pixel p and left that run count (R119, R128, R129): all of
the state after it. -/
def ResolvedChunk (s t : State) (n : Nat) (p : Pixel) (run : BitVec 6) : Prop :=
  t.prev = p ∧ t.run = run ∧ Stored s t (slotOf p) p ∧ Moved s t n (rawBytes s.channels p) ∧ NextPixel s t ∧
  SameParams s t ∧ SameStatus s t ∧ SameSurroundings s t

/-- An encoder pixel step that read an n-byte raw pixel p, wrote these bytes and left that run count (R101, R116): all of the
state after it but HIST. -/
def CodedPixel (s t : State) (n : Nat) (p : Pixel) (bs : List Byte) (run : BitVec 6) : Prop :=
  t.prev = p ∧ t.run = run ∧ Moved s t n bs ∧ NextPixel s t ∧ SameParams s t ∧ SameStatus s t ∧ SameSurroundings s t

/-- StreamExhausted taken after n bytes (R142): SUCCESS, CAUSE, PHASE and the recorded IPOS; OUT and IN stay; of the other
registers nothing is said. -/
def Exhausted (s t : State) (n : Nat) : Prop :=
  t.success = false ∧ t.cause = .streamExhausted ∧ t.phase = .fault ∧ ReadOnly s t n ∧ t.failPos = s.ipos + n ∧
  t.input = s.input ∧ t.pending = s.pending

/-- A command that ended in DONE, n bytes read, these bytes written: SUCCESS and CAUSE as given, nothing else changed (R150), the
recorded position among it (the model's choice, log entry 21). -/
def EndedCommand (s t : State) (n : Nat) (bs : List Byte) (ok : Bool) (c : Cause) : Prop :=
  t.success = ok ∧ t.cause = c ∧ t.phase = .done ∧ t.failPos = s.failPos ∧ Moved s t n bs ∧ SameCodec s t ∧
  SameParams s t ∧ t.npix = s.npix ∧ t.pxi = s.pxi ∧ t.mode = s.mode ∧ SameSurroundings s t

/-- The raw-pixel instruction that delivers the pixel p, and how many bytes it takes (R53, R100): RAW4, or RAW3 with alpha
255. -/
def RawPixelOf (i : Instr) (p : Pixel) (n : Nat) : Prop :=
  (i = .pixel4 p.r p.g p.b p.a ∧ n = 4) ∨ (i = .pixel3 p.r p.g p.b ∧ p.a = 255 ∧ n = 3)

/-- The bytes a pending run is flushed to before a differing pixel's chunk (R103, R110): one RUN byte, or nothing. -/
def flushBytes (run : BitVec 6) : List Byte :=
  if run = 0 then [] else [BitVec.ofNat 8 (0xc0 + (run.toNat - 1))]

/-- The header step is done (R71, R79): these parameters, n bytes read, these bytes written, NPIX the exact product, PHASE PIX
or, when no pixel is left, TRL; nothing else changed. -/
def HeaderDone (s t : State) (n : Nat) (bs : List Byte) (w h : BitVec 32) (c k : Byte) : Prop :=
  t.width = w ∧ t.height = h ∧ t.channels = c ∧ t.colorspace = k ∧ t.npix.toNat = w.toNat * h.toNat ∧
  t.phase = (if s.pxi.toNat < w.toNat * h.toNat then .pix else .trl) ∧ Moved s t n bs ∧ SameCodec s t ∧
  t.pxi = s.pxi ∧ t.mode = s.mode ∧ SameStatus s t ∧ SameSurroundings s t

/-- A command has just started (R25, R70, R77, R162): the mode, the codec state and both streams at their initial values. The
recorded position is as it was (the model's choice, log entry 21). -/
def Started (s t : State) (m : Mode) (bs : List Byte) (q : List HostMove) : Prop :=
  t.mode = m ∧ t.phase = .hdr ∧ (∀ i, t.lookup i = ⟨0, 0, 0, 0⟩) ∧ t.prev = ⟨0, 0, 0, 255⟩ ∧ t.run = 0 ∧ t.pxi = 0 ∧
  t.input = bs ∧ t.ipos = 0 ∧ t.output = [] ∧ t.opos = 0 ∧ t.pending = q ∧ t.failPos = s.failPos

/-- Two states in which the same command stands at the same point: everything agrees that a rule may still read. The
parameters are left out where Decode has not read them yet, NPIX before the header step, SUCCESS, CAUSE and what earlier
commands left elsewhere always. -/
def SameCommand (s t : State) : Prop :=
  t.phase = s.phase ∧ t.mode = s.mode ∧ SameCodec s t ∧ t.pxi = s.pxi ∧ t.input = s.input ∧ t.ipos = s.ipos ∧
  t.output = s.output ∧ t.opos = s.opos ∧ (s.phase ≠ .hdr ∨ s.mode = .encode → SameParams s t) ∧
  (s.phase ≠ .hdr → t.npix = s.npix)

/-- d is the two's-complement difference of two channels, in −128..127 (R94). -/
def IsDelta (c q : Byte) (d : Int) : Prop := -128 ≤ d ∧ d ≤ 127 ∧ (c.toNat : Int) = ((q.toNat : Int) + d) % 256

end Sys2Proof.Machine
end

