-- ==== Sys2Proof/Certificates/Slice0/Obligations.lean ====
section
/-! DEFINITION. The statements for the provers. Each docstring names the rules of spec/ it formalises. -/

open Sys2Proof Sys2Proof.Machine

/-! Encoding. -/

/-- Every well-formed instruction, at every operand value, is read back from its bytes at its own site, and the bytes after it
are left alone (R50 to R62). -/
def Obligations.DecodeOfEncode : Prop :=
  ∀ (i : Instr) (rest : List Byte), i.wf = true → decode i.site (encode i ++ rest) = .ok i rest

/-- What is read is always a well-formed instruction of the site, and the bytes consumed are exactly its encoding: no bytes
have two spellings (R50 to R63). -/
def Obligations.EncodeOfDecode : Prop :=
  ∀ (site : Site) (bs rest : List Byte) (i : Instr), decode site bs = .ok i rest →
    bs = encode i ++ rest ∧ i.wf = true ∧ i.site = site

/-- The tag map (R55), with the fields of each format (R56 to R61): which opcode each first byte selects, its operands, and the
bytes left. -/
def Obligations.TagMapSelectsOneArm : Prop :=
  ∀ (t o1 o2 o3 o4 : Byte) (rest : List Byte),
    (t.toNat ≤ 0x3f →
      decode .chunk (t :: o1 :: o2 :: o3 :: o4 :: rest) =
        .ok (.index (BitVec.ofNat 6 t.toNat)) (o1 :: o2 :: o3 :: o4 :: rest)) ∧
    (0x40 ≤ t.toNat ∧ t.toNat ≤ 0x7f →
      decode .chunk (t :: o1 :: o2 :: o3 :: o4 :: rest) =
        .ok (.diff ((t.toNat / 16 % 4 : Nat) - 2) ((t.toNat / 4 % 4 : Nat) - 2) ((t.toNat % 4 : Nat) - 2))
          (o1 :: o2 :: o3 :: o4 :: rest)) ∧
    (0x80 ≤ t.toNat ∧ t.toNat ≤ 0xbf →
      decode .chunk (t :: o1 :: o2 :: o3 :: o4 :: rest) =
        .ok (.luma ((t.toNat % 64 : Nat) - 32) ((o1.toNat / 16 : Nat) - 8) ((o1.toNat % 16 : Nat) - 8))
          (o2 :: o3 :: o4 :: rest)) ∧
    (0xc0 ≤ t.toNat ∧ t.toNat ≤ 0xfd →
      decode .chunk (t :: o1 :: o2 :: o3 :: o4 :: rest) =
        .ok (.run (t.toNat - 0xc0 + 1)) (o1 :: o2 :: o3 :: o4 :: rest)) ∧
    (t = 0xfe → decode .chunk (t :: o1 :: o2 :: o3 :: o4 :: rest) = .ok (.rgb o1 o2 o3) (o4 :: rest)) ∧
    (t = 0xff → decode .chunk (t :: o1 :: o2 :: o3 :: o4 :: rest) = .ok (.rgba o1 o2 o3 o4) rest)

/-- The bytes of the packed chunks as numbers (R62): 0x40 + (dr+2)×16 + (dg+2)×4 + (db+2), 0x80 + (dg+32) and
(dr_dg+8)×16 + (db_dg+8), 0xc0 + (n − 1), and the index. -/
def Obligations.PackedChunkBytes : Prop :=
  (∀ dr dg db : Int, (Instr.diff dr dg db).wf = true →
    ∃ b : Byte, encode (.diff dr dg db) = [b] ∧ (b.toNat : Int) = 0x40 + (dr + 2) * 16 + (dg + 2) * 4 + (db + 2)) ∧
  (∀ dg drDg dbDg : Int, (Instr.luma dg drDg dbDg).wf = true →
    ∃ b1 b2 : Byte, encode (.luma dg drDg dbDg) = [b1, b2] ∧ (b1.toNat : Int) = 0x80 + (dg + 32) ∧
      (b2.toNat : Int) = (drDg + 8) * 16 + (dbDg + 8)) ∧
  (∀ n : Nat, (Instr.run n).wf = true → ∃ b : Byte, encode (.run n) = [b] ∧ b.toNat = 0xc0 + (n - 1)) ∧
  (∀ i : BitVec 6, ∃ b : Byte, encode (.index i) = [b] ∧ b.toNat = i.toNat)

/-- The example of every row of the opcode table, and RAW3 and RAW4 pixels, read and written (R51 to R53, R56 to R61). -/
def Obligations.SampleRecordsReadAndWritten : Prop :=
  decode .chunk [0xfe, 0xc8, 0x64, 0x32] = .ok (.rgb 200 100 50) [] ∧
  decode .chunk [0xff, 0x15, 0x20, 0x28, 0x80] = .ok (.rgba 21 32 40 128) [] ∧
  decode .chunk [0x09] = .ok (.index 9) [] ∧
  decode .chunk [0x79] = .ok (.diff 1 0 (-1)) [] ∧
  decode .chunk [0xac, 0x67] = .ok (.luma 12 (-2) (-1)) [] ∧
  decode .chunk [0xfd] = .ok (.run 62) [] ∧
  decode .header [0x71, 0x6f, 0x69, 0x66, 0, 0, 0, 4, 0, 0, 0, 2, 4, 0] = .ok (.header 4 2 4 0) [] ∧
  decode .trailer [0, 0, 0, 0, 0, 0, 0, 1] = .ok .trailer [] ∧
  decode .raw3 [10, 20, 30] = .ok (.pixel3 10 20 30) [] ∧
  decode .raw4 [10, 20, 30, 40] = .ok (.pixel4 10 20 30 40) [] ∧
  encode (.luma 8 2 (-3)) = [0xa8, 0xa5] ∧
  encode (.header 0x01020304 0xfffffffe 4 1) = [0x71, 0x6f, 0x69, 0x66, 1, 2, 3, 4, 0xff, 0xff, 0xff, 0xfe, 4, 1]

/-- Chunk decoding is total on content (R63): every first byte is accepted when four more bytes follow, and the only rejection
is the end of the stream, with every byte consumed. -/
def Obligations.ChunkDecodingIsTotal : Prop :=
  (∀ (t : Byte) (rest : List Byte), 4 ≤ rest.length → ∃ i rest', decode .chunk (t :: rest) = .ok i rest') ∧
  (∀ (bs : List Byte) (r : Reject), decode .chunk bs = .reject r → r = .short bs.length ∧ bs.length < 5)

/-- A table word placed by withFetchWord is the instruction the very next step runs, in every state (the model's own
interface, log entry 12). -/
def Obligations.PlacedTableWordRunsNext : Prop :=
  ∀ (s : State) (nbits w : Nat) (i : Instr), decodeTableWord nbits w = some i →
    step (s.withFetchWord nbits w) = exec i (s.withFetchWord nbits w)

/-! The sequencer. -/

/-- A step runs the record at the input cursor, of the kind MODE, PHASE and CHANNELS call for; in Encode it runs HEADER with
the parameter registers, and END, without reading (R71, R73, R78, R82, R100, R121). Nothing stands around exec: exec itself
moves IPOS past the record. -/
def Obligations.StepRunsDecodedInstruction : Prop :=
  ∀ (s : State) (i : Instr) (rest : List Byte),
    (s.phase = .hdr ∧ s.mode = .decode ∧ decode .header s.ahead = .ok i rest → step s = exec i s) ∧
    (s.atChunk ∧ decode .chunk s.ahead = .ok i rest → step s = exec i s) ∧
    (s.phase = .trl ∧ s.mode = .decode ∧ decode .trailer s.ahead = .ok i rest → step s = exec i s) ∧
    (s.atRaw ∧ s.channels = 4 ∧ decode .raw4 s.ahead = .ok i rest → step s = exec i s) ∧
    (s.atRaw ∧ s.channels ≠ 4 ∧ decode .raw3 s.ahead = .ok i rest → step s = exec i s) ∧
    (s.phase = .hdr ∧ s.mode = .encode → step s = exec (.header s.width s.height s.channels s.colorspace) s) ∧
    (s.phase = .trl ∧ s.mode = .encode → step s = exec .trailer s)

/-- StreamExhausted (R142, R149, R150), at every read that can fail, with how much the reads before it consumed: SUCCESS 0,
CAUSE 3, PHASE FAULT, OUT kept, IPOS at the failing read recorded. Of the other registers nothing is stated: they are free
values. -/
def Obligations.ShortInputRaisesStreamExhausted : Prop :=
  ∀ s : State,
    (s.phase = .hdr ∧ s.mode = .decode ∧ s.ahead.length < 4 →
      ∃ t, step s = .next t ∧ Exhausted s t s.ahead.length) ∧
    (∀ fs : List Byte, s.phase = .hdr ∧ s.mode = .decode ∧ s.ahead = [0x71, 0x6f, 0x69, 0x66] ++ fs ∧ fs.length < 10 →
      ∃ t, step s = .next t ∧
        Exhausted s t (if fs.length < 4 then 4 else if fs.length < 8 then 8 else 4 + fs.length)) ∧
    (s.atChunk ∧ s.ahead = [] → ∃ t, step s = .next t ∧ Exhausted s t 0) ∧
    (∀ os : List Byte, s.atChunk ∧ s.ahead = 0xfe :: os ∧ os.length < 3 →
      ∃ t, step s = .next t ∧ Exhausted s t (1 + os.length)) ∧
    (∀ os : List Byte, s.atChunk ∧ s.ahead = 0xff :: os ∧ os.length < 4 →
      ∃ t, step s = .next t ∧ Exhausted s t (1 + os.length)) ∧
    (∀ b : Byte, s.atChunk ∧ s.ahead = [b] ∧ 0x80 ≤ b.toNat ∧ b.toNat ≤ 0xbf →
      ∃ t, step s = .next t ∧ Exhausted s t 1) ∧
    (s.phase = .trl ∧ s.mode = .decode ∧ s.ahead.length < 8 →
      ∃ t, step s = .next t ∧ Exhausted s t s.ahead.length) ∧
    (s.atRaw ∧ s.ahead.length < bytesPerPixel s.channels →
      ∃ t, step s = .next t ∧ Exhausted s t s.ahead.length)

/-- Encode, command start (R70): from IDLE, DONE or FAULT, whatever the block held; the host's parameters stay. That the start
is taken also where the host wrote none, and that the recorded position stays, is the model's choice (log entries 19, 21). -/
def Obligations.EncodeStartInitialises : Prop :=
  ∀ (s : State) (raw : List Byte) (q : List HostMove), s.ended → s.pending = .startEncode raw :: q →
    ∃ t, step s = .next t ∧ Started s t .encode raw q ∧ SameParams s t

/-- Decode, command start (R77): the same initial values; of the parameters, NPIX, SUCCESS and CAUSE nothing is stated. That
the recorded position stays is the model's choice (log entry 21). -/
def Obligations.DecodeStartInitialises : Prop :=
  ∀ (s : State) (stream : List Byte) (q : List HostMove), s.ended → s.pending = .startDecode stream :: q →
    ∃ t, step s = .next t ∧ Started s t .decode stream q

/-- The host writes a parameter register between commands, and nothing else changes (R16; the queue of host moves is the
model's, log entry 4). -/
def Obligations.HostWritesParameters : Prop :=
  ∀ (s : State) (q : List HostMove), s.ended →
    (∀ v, s.pending = .writeWidth v :: q → step s = .next { s with width := v, pending := q }) ∧
    (∀ v, s.pending = .writeHeight v :: q → step s = .next { s with height := v, pending := q }) ∧
    (∀ v, s.pending = .writeChannels v :: q → step s = .next { s with channels := v, pending := q }) ∧
    (∀ v, s.pending = .writeColorspace v :: q → step s = .next { s with colorspace := v, pending := q })

/-- With no host move the block waits in IDLE and DONE, and FAULT is a fault of the step (the model's choice, log entries 3 and
4, from R161 and R142). -/
def Obligations.HostWithoutMove : Prop :=
  ∀ s : State, s.pending = [] →
    (s.phase = .idle ∨ s.phase = .done → step s = .next s) ∧
    (s.phase = .fault → step s = .fault (.streamExhausted s.failPos))

/-- While a command runs the host has no move (R85): its queue is neither read nor changed by the step. -/
def Obligations.HostHasNoMoveWhileRunning : Prop :=
  ∀ (s t : State) (q : List HostMove), s.running → step s = .next t →
    t.pending = s.pending ∧ step (s.setPending q) = .next (t.setPending q)

/-! The records. -/

/-- HEADER in Decode (R79): the fields from bytes 4 to 13, big-endian, no value rejected, NPIX the exact product; and a stream
that ends inside them is StreamExhausted. That this last
is a next state, with IPOS kept at the failing read, rests on the spec's decision D10 (R142) and on the model's choices, log
entries 3 and 15. -/
def Obligations.HeaderReadInDecode : Prop :=
  ∀ s : State, s.mode = .decode →
    (∀ (w h : BitVec 32) (c k : Byte),
      ∃ t, exec (.header w h c k) s = .next t ∧ HeaderDone s t 14 [] w h c k) ∧
    (∀ (w3 w2 w1 w0 h3 h2 h1 h0 c k : Byte) (w h : BitVec 32) (rest : List Byte), s.phase = .hdr →
      w.toNat = w3.toNat * 2 ^ 24 + w2.toNat * 2 ^ 16 + w1.toNat * 2 ^ 8 + w0.toNat →
      h.toNat = h3.toNat * 2 ^ 24 + h2.toNat * 2 ^ 16 + h1.toNat * 2 ^ 8 + h0.toNat →
      s.ahead = [0x71, 0x6f, 0x69, 0x66, w3, w2, w1, w0, h3, h2, h1, h0, c, k] ++ rest →
      step s = exec (.header w h c k) s) ∧
    (∀ fs : List Byte, s.phase = .hdr → s.ahead = [0x71, 0x6f, 0x69, 0x66] ++ fs → fs.length < 10 →
      ∃ t n, step s = .next t ∧ Exhausted s t n)

/-- A wrong magic (R143): after exactly four bytes the command ends with SUCCESS 0 and CAUSE 1; nothing is written, no other
field is read. In a command that has just started IPOS is then 4, OUT is empty and the codec state is initial. Of the
parameters nothing is stated (R144). That the recorded position stays is the model's choice (log entry 21). -/
def Obligations.WrongMagicEndsDecode : Prop :=
  ∀ (s : State) (m0 m1 m2 m3 : Byte) (rest : List Byte), s.phase = .hdr → s.mode = .decode →
    s.ahead = m0 :: m1 :: m2 :: m3 :: rest → ¬ (m0 = 0x71 ∧ m1 = 0x6f ∧ m2 = 0x69 ∧ m3 = 0x66) →
    ∃ t, step s = .next t ∧ t.success = false ∧ t.cause = .badMagic ∧ t.phase = .done ∧ ReadOnly s t 4 ∧ SameCodec s t ∧
      t.pxi = s.pxi ∧ t.mode = s.mode ∧ t.failPos = s.failPos ∧ t.input = s.input ∧ t.pending = s.pending ∧
      ∀ (u : State) (bs : List Byte) (q : List HostMove), Started u s .decode bs q →
        t.ipos = 4 ∧ t.opos = 0 ∧ t.output = [] ∧ (∀ i, t.lookup i = ⟨0, 0, 0, 0⟩) ∧ t.prev = ⟨0, 0, 0, 255⟩ ∧ t.run = 0

/-- HEADER in Encode (R71): the 14 bytes, width and height most significant byte first; nothing read, no field checked. -/
def Obligations.HeaderWrittenInEncode : Prop :=
  ∀ (s : State) (w h : BitVec 32) (c k : Byte), s.mode = .encode → w = s.width → h = s.height → c = s.channels →
    k = s.colorspace →
    ∃ t w3 w2 w1 w0 h3 h2 h1 h0, exec (.header w h c k) s = .next t ∧
      HeaderDone s t 0 [0x71, 0x6f, 0x69, 0x66, w3, w2, w1, w0, h3, h2, h1, h0, c, k] w h c k ∧
      w.toNat = w3.toNat * 2 ^ 24 + w2.toNat * 2 ^ 16 + w1.toNat * 2 ^ 8 + w0.toNat ∧
      h.toNat = h3.toNat * 2 ^ 24 + h2.toNat * 2 ^ 16 + h1.toNat * 2 ^ 8 + h0.toNat

/-- END in Decode (R82, R145): all eight bytes are consumed; a match ends the command well, a mismatch with CAUSE 2, and in both
OUT and the parameters stay. That the recorded position stays too is the model's choice (log entry 21). -/
def Obligations.TrailerCheckedInDecode : Prop :=
  ∀ s : State, s.mode = .decode →
    (∃ t, exec .trailer s = .next t ∧ EndedCommand s t 8 [] true .none) ∧
    (∀ bs rest : List Byte, s.phase = .trl → bs.length = 8 → s.ahead = bs ++ rest →
      ∃ t, step s = .next t ∧
        if bs = [0, 0, 0, 0, 0, 0, 0, 1] then EndedCommand s t 8 [] true .none
        else EndedCommand s t 8 [] false .badTrailer)

/-- END in Encode (R73, R76): the eight bytes, then the end of the command with SUCCESS 1. RUN is not looked at. That
the recorded position stays is the model's choice (log entry 21). -/
def Obligations.TrailerWrittenInEncode : Prop :=
  ∀ s : State, s.mode = .encode →
    ∃ t, exec .trailer s = .next t ∧ EndedCommand s t 0 [0, 0, 0, 0, 0, 0, 0, 1] true .none

/-- Encode of an image with no pixels (R74): two steps, 22 bytes, nothing read. -/
def Obligations.EncodeOfNoPixels : Prop :=
  ∀ s : State, s.phase = .hdr → s.mode = .encode → s.pxi = 0 → s.width = 0 ∨ s.height = 0 →
    ∃ t, core.run 2 s = .next t ∧
      t.output = s.output ++ encode (.header s.width s.height s.channels s.colorspace) ++ [0, 0, 0, 0, 0, 0, 0, 1] ∧
      t.opos = s.opos + 22 ∧ t.ipos = s.ipos ∧ t.phase = .done ∧ t.success = true ∧ t.cause = .none

/-- Decode of an image with no pixels (R81): two steps, 22 bytes read, nothing written, SUCCESS says whether the trailer
matched. -/
def Obligations.DecodeOfNoPixels : Prop :=
  ∀ (s : State) (w h : BitVec 32) (c k : Byte) (bs rest : List Byte), s.phase = .hdr → s.mode = .decode → s.pxi = 0 →
    w = 0 ∨ h = 0 → bs.length = 8 → s.ahead = encode (.header w h c k) ++ bs ++ rest →
    ∃ t, core.run 2 s = .next t ∧ t.output = s.output ∧ t.ipos = s.ipos + 22 ∧ t.phase = .done ∧ t.width = w ∧
      t.height = h ∧ t.channels = c ∧ t.colorspace = k ∧ (t.success = true ↔ bs = [0, 0, 0, 0, 0, 0, 0, 1])

/-! The decoder's chunks. Each statement has the whole state after the chunk (its frame included), the bytes it is read from,
and what a stream that ends inside it does. -/

/-- RGB in Decode (R122): r, g, b from the chunk, alpha unchanged; and a chunk cut short is StreamExhausted. That this last
is a next state, with IPOS kept at the failing read, rests on the spec's decision D10 (R142) and on the model's choices, log
entries 3 and 15. -/
def Obligations.RgbInDecode : Prop :=
  ∀ s : State, s.mode = .decode →
    (∀ r g b : Byte, ∃ t, exec (.rgb r g b) s = .next t ∧ ResolvedChunk s t 4 ⟨r, g, b, s.prev.a⟩ s.run) ∧
    (∀ (r g b : Byte) (rest : List Byte), s.atChunk → s.ahead = 0xfe :: r :: g :: b :: rest →
      step s = exec (.rgb r g b) s) ∧
    (∀ os : List Byte, s.atChunk → s.ahead = 0xfe :: os → os.length < 3 →
      ∃ t, step s = .next t ∧ Exhausted s t (1 + os.length))

/-- RGBA in Decode (R123): all four channels, whatever CHANNELS is; and a chunk cut short is StreamExhausted. That this last
is a next state, with IPOS kept at the failing read, rests on the spec's decision D10 (R142) and on the model's choices, log
entries 3 and 15. -/
def Obligations.RgbaInDecode : Prop :=
  ∀ s : State, s.mode = .decode →
    (∀ r g b a : Byte, ∃ t, exec (.rgba r g b a) s = .next t ∧ ResolvedChunk s t 5 ⟨r, g, b, a⟩ s.run) ∧
    (∀ (r g b a : Byte) (rest : List Byte), s.atChunk → s.ahead = 0xff :: r :: g :: b :: a :: rest →
      step s = exec (.rgba r g b a) s) ∧
    (∀ os : List Byte, s.atChunk → s.ahead = 0xff :: os → os.length < 4 →
      ∃ t, step s = .next t ∧ Exhausted s t (1 + os.length))

/-- INDEX in Decode (R124): the pixel of the slot, alpha included, as the slot was before this step's store; the store then
goes to the pixel's own hash. -/
def Obligations.IndexInDecode : Prop :=
  ∀ (s : State) (i : BitVec 6), s.mode = .decode →
    (∃ t, exec (.index i) s = .next t ∧ ResolvedChunk s t 1 (s.lookup i) s.run) ∧
    (∀ (b : Byte) (rest : List Byte), s.atChunk → s.ahead = b :: rest → b.toNat = i.toNat → step s = exec (.index i) s)

/-- DIFF in Decode (R125): three deltas added with wrap, alpha unchanged. -/
def Obligations.DiffInDecode : Prop :=
  ∀ s : State, s.mode = .decode →
    (∀ dr dg db : Int, ∃ t p, exec (.diff dr dg db) s = .next t ∧ ResolvedChunk s t 1 p s.run ∧
      (p.r.toNat : Int) = ((s.prev.r.toNat : Int) + dr) % 256 ∧ (p.g.toNat : Int) = ((s.prev.g.toNat : Int) + dg) % 256 ∧
      (p.b.toNat : Int) = ((s.prev.b.toNat : Int) + db) % 256 ∧ p.a = s.prev.a) ∧
    (∀ (b : Byte) (rest : List Byte), s.atChunk → s.ahead = b :: rest → 0x40 ≤ b.toNat → b.toNat ≤ 0x7f →
      step s = exec (.diff ((b.toNat / 16 % 4 : Nat) - 2) ((b.toNat / 4 % 4 : Nat) - 2) ((b.toNat % 4 : Nat) - 2)) s)

/-- LUMA in Decode (R126): r += dr_dg + dg, g += dg, b += db_dg + dg with wrap, alpha unchanged; and a chunk cut short is
StreamExhausted. That this last is a next state, with IPOS kept at the failing read, rests on the
spec's decision D10 (R142) and on the model's choices, log entries 3 and 15. -/
def Obligations.LumaInDecode : Prop :=
  ∀ s : State, s.mode = .decode →
    (∀ dg drDg dbDg : Int, ∃ t p, exec (.luma dg drDg dbDg) s = .next t ∧ ResolvedChunk s t 2 p s.run ∧
      (p.r.toNat : Int) = ((s.prev.r.toNat : Int) + drDg + dg) % 256 ∧
      (p.g.toNat : Int) = ((s.prev.g.toNat : Int) + dg) % 256 ∧
      (p.b.toNat : Int) = ((s.prev.b.toNat : Int) + dbDg + dg) % 256 ∧ p.a = s.prev.a) ∧
    (∀ (b n : Byte) (rest : List Byte), s.atChunk → s.ahead = b :: n :: rest → 0x80 ≤ b.toNat → b.toNat ≤ 0xbf →
      step s = exec (.luma ((b.toNat % 64 : Nat) - 32) ((n.toNat / 16 : Nat) - 8) ((n.toNat % 16 : Nat) - 8)) s) ∧
    (∀ b : Byte, s.atChunk → s.ahead = [b] → 0x80 ≤ b.toNat → b.toNat ≤ 0xbf →
      ∃ t, step s = .next t ∧ Exhausted s t 1)

/-- RUN in Decode (R127): the field goes to RUN, PREV is unchanged, one pixel comes out in this step. -/
def Obligations.RunInDecode : Prop :=
  ∀ (s : State) (n : Nat), s.mode = .decode → 1 ≤ n → n ≤ 62 →
    (∃ t, exec (.run n) s = .next t ∧ ResolvedChunk s t 1 s.prev t.run ∧ t.run.toNat = n - 1) ∧
    (∀ (b : Byte) (rest : List Byte), s.atChunk → s.ahead = b :: rest → b.toNat = 0xc0 + (n - 1) →
      step s = exec (.run n) s)

/-- A RUN chunk of length n produces n pixels (R127, R120): n steps, one byte read, n copies of PREV written, RUN 0 again. -/
def Obligations.RunChunkProducesItsLength : Prop :=
  ∀ (s : State) (n : Nat) (b : Byte) (rest : List Byte), s.atChunk → 1 ≤ n → n ≤ 62 → b.toNat = 0xc0 + (n - 1) →
    s.ahead = b :: rest → s.pxi.toNat + n ≤ s.npix.toNat →
    ∃ t, core.run n s = .next t ∧ t.output = s.output ++ (List.replicate n (rawBytes s.channels s.prev)).flatten ∧
      t.ipos = s.ipos + 1 ∧ t.run = 0 ∧ t.prev = s.prev ∧ t.pxi.toNat = s.pxi.toNat + n

/-- A run continuation (R120): RUN − 1 and one more PREV written; no byte read, no history store, and the input is not looked
at, whatever it holds. -/
def Obligations.RunContinuation : Prop :=
  ∀ s : State, s.atContinuation →
    ∃ t, step s = .next t ∧ t.run.toNat + 1 = s.run.toNat ∧ t.prev = s.prev ∧ t.hist = s.hist ∧
      Moved s t 0 (rawBytes s.channels s.prev) ∧ NextPixel s t ∧ SameParams s t ∧ SameStatus s t ∧
      SameSurroundings s t ∧
      ∀ (bs : List Byte) (k : Nat), step { s with input := bs, ipos := k } = .next { t with input := bs, ipos := k }

/-- The history store (R128): after every step that read a chunk, on all six arms, the resolved pixel is in the slot of its
hash and no other slot has changed; a run continuation stores nothing. -/
def Obligations.HistoryStoreAfterEveryChunk : Prop :=
  (∀ (s : State) (i : Instr) (rest : List Byte), s.atChunk → decode .chunk s.ahead = .ok i rest →
    ∃ t, step s = .next t ∧ t.lookup (slotOf t.prev) = t.prev ∧ ∀ j, j ≠ slotOf t.prev → t.lookup j = s.lookup j) ∧
  (∀ s : State, s.atContinuation → ∃ t, step s = .next t ∧ t.hist = s.hist)

/-- Every decoder pixel step that does not run out of input emits exactly one pixel, r, g, b and a only when CHANNELS = 4, and
consumes exactly one chunk or nothing (R119, R129). -/
def Obligations.DecoderStepEmitsOnePixel : Prop :=
  ∀ s t : State, s.phase = .pix → s.mode = .decode → s.pxi < s.npix → step s = .next t → t.phase ≠ .fault →
    t.output = s.output ++ (if s.channels = 4 then [t.prev.r, t.prev.g, t.prev.b, t.prev.a]
      else [t.prev.r, t.prev.g, t.prev.b]) ∧
    (s.run ≠ 0 → t.ipos = s.ipos) ∧
    (s.run = 0 → ∃ i rest, decode .chunk s.ahead = .ok i rest ∧ t.ipos = s.ipos + i.length)

/-- A run longer than the image (R130): at the last pixel the loop ends with RUN left over, and the trailer step does not
depend on it. -/
def Obligations.LeftoverRunIsDropped : Prop :=
  (∀ s : State, s.atContinuation → s.pxi.toNat + 1 = s.npix.toNat →
    ∃ t, step s = .next t ∧ t.phase = .trl ∧ t.run.toNat + 1 = s.run.toNat ∧ t.ipos = s.ipos) ∧
  (∀ (s t : State) (v : BitVec 6), s.phase = .trl → s.mode = .decode → step s = .next t → t.phase = .done →
    step (s.setRun v) = .next (t.setRun v))

/-! The encoder. RawPixelOf covers both raw formats: PIXEL4, and PIXEL3 with alpha 255. -/

/-- The pixel fetch (R100): four bytes when CHANNELS = 4, else three and alpha 255; a stream too short is StreamExhausted. That this last
is a next state, with IPOS kept at the failing read, rests on the spec's decision D10 (R142) and on the model's choices, log
entries 3 and 15. -/
def Obligations.RawPixelFetch : Prop :=
  ∀ s : State, s.atRaw →
    (∀ (r g b a : Byte) (rest : List Byte), s.channels = 4 → s.ahead = r :: g :: b :: a :: rest →
      ∃ t, step s = .next t ∧ t.prev = ⟨r, g, b, a⟩ ∧ t.ipos = s.ipos + 4) ∧
    (∀ (r g b : Byte) (rest : List Byte), s.channels ≠ 4 → s.ahead = r :: g :: b :: rest →
      ∃ t, step s = .next t ∧ t.prev = ⟨r, g, b, 255⟩ ∧ t.ipos = s.ipos + 3) ∧
    (s.ahead.length < (if s.channels = 4 then 4 else 3) → ∃ t, step s = .next t ∧ Exhausted s t s.ahead.length)

/-- Guard 1, a pixel equal to PREV (R102): counted; flushed as one RUN chunk when the count reaches 62 or at the final pixel;
the history is not written. RUN ≤ 61 is the invariant StepKeepsCodec. -/
def Obligations.EqualPixelIsCounted : Prop :=
  ∀ (s : State) (i : Instr) (p : Pixel) (n : Nat), s.mode = .encode → RawPixelOf i p n → p = s.prev →
    s.run.toNat ≤ 61 →
    ∃ t, exec i s = .next t ∧ t.hist = s.hist ∧
      if s.run.toNat + 1 = 62 ∨ s.pxi.toNat + 1 = s.npix.toNat then
        CodedPixel s t n p [BitVec.ofNat 8 (0xc0 + s.run.toNat)] 0
      else CodedPixel s t n p [] t.run ∧ t.run.toNat = s.run.toNat + 1

/-- Guard 2 on a history hit (R103, R104): the pending run's chunk first, then INDEX; no store, whatever the alpha and the
deltas are. -/
def Obligations.HistoryHitIsIndexed : Prop :=
  ∀ (s : State) (i : Instr) (p : Pixel) (n : Nat), s.mode = .encode → RawPixelOf i p n → p ≠ s.prev →
    s.lookup (slotOf p) = p →
    ∃ t b, exec i s = .next t ∧ CodedPixel s t n p (flushBytes s.run ++ [b]) 0 ∧ b.toNat = (slotOf p).toNat ∧
      t.hist = s.hist

/-- Guard 3 (R105, R106): on a miss the pixel is stored in its slot; a changed alpha gives RGBA. -/
def Obligations.ChangedAlphaIsLiteral : Prop :=
  ∀ (s : State) (i : Instr) (p : Pixel) (n : Nat), s.mode = .encode → RawPixelOf i p n → s.lookup (slotOf p) ≠ p →
    p.a ≠ s.prev.a →
    ∃ t, exec i s = .next t ∧ CodedPixel s t n p (flushBytes s.run ++ [0xff, p.r, p.g, p.b, p.a]) 0 ∧
      Stored s t (slotOf p) p

/-- Guard 4 (R105, R107): on a miss with the same alpha, three deltas in −2..1 give DIFF. -/
def Obligations.SmallDeltasAreDiff : Prop :=
  ∀ (s : State) (i : Instr) (p : Pixel) (n : Nat) (dr dg db : Int), s.mode = .encode → RawPixelOf i p n →
    p ≠ s.prev → s.lookup (slotOf p) ≠ p → p.a = s.prev.a →
    IsDelta p.r s.prev.r dr → IsDelta p.g s.prev.g dg → IsDelta p.b s.prev.b db →
    -2 ≤ dr ∧ dr ≤ 1 ∧ -2 ≤ dg ∧ dg ≤ 1 ∧ -2 ≤ db ∧ db ≤ 1 →
    ∃ t b, exec i s = .next t ∧ CodedPixel s t n p (flushBytes s.run ++ [b]) 0 ∧
      (b.toNat : Int) = 0x40 + (dr + 2) * 16 + (dg + 2) * 4 + (db + 2) ∧ Stored s t (slotOf p) p

/-- Guard 5 (R105, R108): not DIFF, green in −32..31 and red and blue within −8..7 of it give LUMA. -/
def Obligations.MediumDeltasAreLuma : Prop :=
  ∀ (s : State) (i : Instr) (p : Pixel) (n : Nat) (dr dg db : Int), s.mode = .encode → RawPixelOf i p n →
    s.lookup (slotOf p) ≠ p → p.a = s.prev.a →
    IsDelta p.r s.prev.r dr → IsDelta p.g s.prev.g dg → IsDelta p.b s.prev.b db →
    ¬ (-2 ≤ dr ∧ dr ≤ 1 ∧ -2 ≤ dg ∧ dg ≤ 1 ∧ -2 ≤ db ∧ db ≤ 1) →
    -32 ≤ dg ∧ dg ≤ 31 ∧ -8 ≤ dr - dg ∧ dr - dg ≤ 7 ∧ -8 ≤ db - dg ∧ db - dg ≤ 7 →
    ∃ t b1 b2, exec i s = .next t ∧ CodedPixel s t n p (flushBytes s.run ++ [b1, b2]) 0 ∧
      (b1.toNat : Int) = 0x80 + (dg + 32) ∧ (b2.toNat : Int) = (dr - dg + 8) * 16 + (db - dg + 8) ∧
      Stored s t (slotOf p) p

/-- Guard 6 (R105, R109): same alpha, neither DIFF nor LUMA, gives RGB; the alpha is not written. -/
def Obligations.OtherPixelsAreRgb : Prop :=
  ∀ (s : State) (i : Instr) (p : Pixel) (n : Nat) (dr dg db : Int), s.mode = .encode → RawPixelOf i p n →
    s.lookup (slotOf p) ≠ p → p.a = s.prev.a →
    IsDelta p.r s.prev.r dr → IsDelta p.g s.prev.g dg → IsDelta p.b s.prev.b db →
    ¬ (-2 ≤ dr ∧ dr ≤ 1 ∧ -2 ≤ dg ∧ dg ≤ 1 ∧ -2 ≤ db ∧ db ≤ 1) →
    ¬ (-32 ≤ dg ∧ dg ≤ 31 ∧ -8 ≤ dr - dg ∧ dr - dg ≤ 7 ∧ -8 ≤ db - dg ∧ db - dg ≤ 7) →
    ∃ t, exec i s = .next t ∧ CodedPixel s t n p (flushBytes s.run ++ [0xfe, p.r, p.g, p.b]) 0 ∧
      Stored s t (slotOf p) p

/-- The shape of an encoder step's output (R101): nothing, a RUN chunk, or at most one chunk that is no RUN, after a RUN chunk if
there is one; six bytes at most (R118 (f)); never the DIFF of three zeros (R66). -/
def Obligations.EncoderStepShape : Prop :=
  ∀ s t : State, s.atRaw → s.run.toNat ≤ 61 → step s = .next t → t.phase ≠ .fault →
    ∃ f c : List Byte, t.output = s.output ++ f ++ c ∧ (f ++ c).length ≤ 6 ∧
      (f = [] ∨ ∃ n, 1 ≤ n ∧ n ≤ 62 ∧ f = encode (.run n)) ∧
      (c = [] ∨ ∃ i : Instr, i.isChunk = true ∧ i.wf = true ∧ (∀ n, i ≠ .run n) ∧ i ≠ .diff 0 0 0 ∧ c = encode i)

/-- The write side: in Encode a chunk, in Decode a raw pixel, is appended to OUT and nothing else happens, but that RUN goes to 0
after a RUN chunk (R104, R106 to R110, R129; that exec has this side is the model's framing, log entry 6). -/
def Obligations.WrittenRecordIsAppended : Prop :=
  ∀ (s : State) (i : Instr),
    (s.mode = .encode ∧ i.isChunk = true) ∨ (s.mode = .decode ∧ (i.site = .raw3 ∨ i.site = .raw4)) →
    ∃ t, exec i s = .next t ∧ Moved s t 0 (encode i) ∧ t.prev = s.prev ∧ t.hist = s.hist ∧
      ((∃ n, i = .run n) → t.run = 0) ∧ ((∀ n, i ≠ .run n) → t.run = s.run) ∧ t.pxi = s.pxi ∧ t.npix = s.npix ∧
      t.phase = s.phase ∧ t.mode = s.mode ∧ SameParams s t ∧ SameStatus s t ∧ SameSurroundings s t

/-- What the encoder emits for a pixel after a miss, the decoder with the same PREV turns back into that pixel, through the
bytes (R84, R97). -/
def Obligations.EmittedChunkRebuildsPixel : Prop :=
  ∀ (s : State) (p : Pixel) (rest : List Byte), s.atChunk → s.ahead = encode (codeMiss p s.prev) ++ rest →
    ∃ t, step s = .next t ∧ t.prev = p ∧ t.ahead = rest ∧ t.output = s.output ++ rawBytes s.channels p

/-! Arithmetic. -/

/-- The hash (R90) is the weighted sum modulo 64, also when the sum is first cut to any width of at least 6 bits (R99). -/
def Obligations.HashIsReducedWeightedSum : Prop :=
  ∀ p : Pixel, (slotOf p).toNat = (p.r.toNat * 3 + p.g.toNat * 5 + p.b.toNat * 7 + p.a.toNat * 11) % 64 ∧
    ∀ k, 6 ≤ k → (slotOf p).toNat = (p.r.toNat * 3 + p.g.toNat * 5 + p.b.toNat * 7 + p.a.toNat * 11) % 2 ^ k % 64

/-- The delta is the two's-complement difference (R94), and applying it gives the channel back (R97), for LUMA's sum too. -/
def Obligations.DeltaPairIsExact : Prop :=
  ∀ c q : Byte, IsDelta c q (delta c q) ∧ applyDelta q (delta c q) = c ∧
    ∀ dg : Int, applyDelta q ((delta c q - dg) + dg) = c

/-- The LUMA test gives the same answer whether dr − dg and db − dg are wrapped to 8 bits or not (R95). -/
def Obligations.LumaTestIgnoresWrapping : Prop :=
  ∀ c1 q1 c2 q2 c3 q3 : Byte,
    lumaFits (delta c1 q1) (delta c2 q2) (delta c3 q3) =
      (inRange (delta c2 q2) (-32) 31 && inRange (sext8 (wrap8 (delta c1 q1 - delta c2 q2))) (-8) 7 &&
        inRange (sext8 (wrap8 (delta c3 q3 - delta c2 q2))) (-8) 7)

/-! Reset and invariants. -/

/-- Power-on (R161): PHASE = IDLE, and nothing runs until the host moves. The other values named here are the model's choice
(log entry 1). -/
def Obligations.PowerOnIsIdle : Prop :=
  State.reset.phase = .idle ∧ step State.reset = .next State.reset ∧
  State.reset.prev = ⟨0, 0, 0, 255⟩ ∧ (∀ i, State.reset.lookup i = ⟨0, 0, 0, 0⟩) ∧ State.reset.run = 0

/-- Every invariant holds at reset. -/
def Obligations.ResetMeetsInvariants : Prop :=
  State.reset.StreamsWf ∧ State.reset.CodecWf ∧ State.reset.LoopWf ∧ State.reset.StatusWf ∧ State.reset.EncoderWf ∧
  State.reset.PositionsWf

/-- Every step keeps the streams well formed: IPOS within IN, OPOS the length of OUT (R31, R32). -/
def Obligations.StepKeepsStreams : Prop :=
  ∀ s t : State, s.StreamsWf → step s = .next t → t.StreamsWf

/-- Every step keeps every history slot at (0,0,0,0) or a pixel of its own hash, and RUN in 0..61, while a command runs, on every
stream (R118 (a), (d), R131 (a), (c)). -/
def Obligations.StepKeepsCodec : Prop :=
  ∀ s t : State, s.CodecWf → step s = .next t → t.CodecWf

/-- Every step keeps the pixel loop: NPIX the pixel count, PXI below it in PIX and at it in TRL (R18, R20, R72, R80). -/
def Obligations.StepKeepsLoop : Prop :=
  ∀ s t : State, s.LoopWf → step s = .next t → t.LoopWf

/-- Every step keeps the status rule: SUCCESS = 1 exactly when CAUSE = 0 at the end of a command, FAULT exactly with
StreamExhausted, Encode never DONE without success (R22, R23, R76). -/
def Obligations.StepKeepsStatus : Prop :=
  ∀ s t : State, s.StatusWf → step s = .next t → t.StatusWf

/-- Every step keeps the encoder's invariant: PREV is in its slot or nothing was stored, no alpha but 255 without an alpha
channel, no run pending at the trailer (R11, R15, R118 (c), (e)). -/
def Obligations.StepKeepsEncoder : Prop :=
  ∀ s t : State, s.LoopWf → s.EncoderWf → step s = .next t → t.EncoderWf

/-- Every step keeps the stream positions: BPP bytes in (Encode) or out (Decode) for each pixel, at most five chunk bytes for
each pixel encoded (R39, R40, R41, R75, R80). -/
def Obligations.StepKeepsPositions : Prop :=
  ∀ s t : State, s.PositionsWf → step s = .next t → t.PositionsWf

/-- While a command runs IN does not change, IPOS never moves back, and OUT only grows at its end (R19, R35, R42). -/
def Obligations.StreamsOnlyGrow : Prop :=
  ∀ s t : State, s.running → step s = .next t →
    t.input = s.input ∧ s.ipos ≤ t.ipos ∧ ∃ bs, t.output = s.output ++ bs

/-! Whole commands. -/

/-- An Encode command whose input is long enough ends well after exactly one header step, NPIX pixel steps and one trailer step,
having read NPIX × BPP bytes and written 14 + L + 8 with L ≤ 5 × NPIX (R72, R75, R76, R176). -/
def Obligations.EncodeEndsInCountedSteps : Prop :=
  ∀ s : State, s.phase = .hdr → s.mode = .encode → s.PositionsWf →
    s.width.toNat * s.height.toNat * bytesPerPixel s.channels ≤ s.input.length →
    ∃ t, core.run (1 + s.width.toNat * s.height.toNat + 1) s = .next t ∧ t.phase = .done ∧ t.success = true ∧
      t.cause = .none ∧ t.ipos = s.width.toNat * s.height.toNat * bytesPerPixel s.channels ∧ SameParams s t ∧
      22 ≤ t.opos ∧ t.opos ≤ 22 + 5 * (s.width.toNat * s.height.toNat)

/-- Nothing survives a command in a way a later one can see (R27, R163): two blocks that start the same command go through it
alike, whatever they held before, and give the same results (for Encode with the parameters among them, the model's choice, log
entry 20). -/
def Obligations.NothingSurvivesACommand : Prop :=
  (∀ (s t s' t' : State) (m : HostMove) (q r : List HostMove), s.ended → t.ended → s.pending = m :: q →
    t.pending = m :: r → (∃ bs, (m = .startEncode bs ∧ SameParams s t) ∨ m = .startDecode bs) →
    step s = .next s' → step t = .next t' → s'.running ∧ SameCommand s' t') ∧
  (∀ s t s' : State, s.running → SameCommand s t → step s = .next s' →
    ∃ t', step t = .next t' ∧ t'.phase = s'.phase ∧ t'.output = s'.output ∧ (s'.running → SameCommand s' t') ∧
      (s'.phase = .done → t'.success = s'.success ∧ t'.cause = s'.cause ∧
        (s'.cause ≠ .badMagic → t'.results = s'.results)))

/-- No read-ahead (R41, R170): a step that does not run out of input depends on no byte beyond the ones it consumes. -/
def Obligations.NoReadAhead : Prop :=
  ∀ (s t : State) (more : List Byte), s.running → s.StreamsWf → step s = .next t → t.phase ≠ .fault →
    step { s with input := s.input.take t.ipos ++ more } = .next { t with input := s.input.take t.ipos ++ more }

/-- The round trip (R84): Encode of any raw stream of the right length ends well, and Decode of what it wrote ends well with the
same parameters, the same raw bytes and the whole encoded stream read. For every CHANNELS value, 3 and 4 among them. -/
def Obligations.DecodeInvertsEncode : Prop :=
  ∀ (s : State) (raw : List Byte) (q : List HostMove), s.ended → s.pending = .startEncode raw :: q →
    raw.length = s.width.toNat * s.height.toNat * bytesPerPixel s.channels →
    ∃ e, core.run (1 + (1 + s.width.toNat * s.height.toNat + 1)) s = .next e ∧ e.phase = .done ∧ e.success = true ∧
      ∀ (d : State) (r : List HostMove), d.ended → d.pending = .startDecode e.output :: r →
        ∃ t, core.run (1 + (1 + s.width.toNat * s.height.toNat + 1)) d = .next t ∧ t.phase = .done ∧
          t.success = true ∧ t.width = s.width ∧ t.height = s.height ∧ t.channels = s.channels ∧
          t.colorspace = s.colorspace ∧ t.output = raw ∧ t.ipos = e.output.length
end

