-- ==== Sys2Proof/Laws/State.lean ====
section
/-! SUPPORT. One lemma for each field of each update of State, so that no proof unfolds a record update. -/

namespace Sys2Proof.Machine

@[simp] theorem State.setPrev_prev (s : State) (p : Pixel) : (s.setPrev p).prev = p := rfl
@[simp] theorem State.setPrev_hist (s : State) (p : Pixel) : (s.setPrev p).hist = s.hist := rfl
@[simp] theorem State.setPrev_run (s : State) (p : Pixel) : (s.setPrev p).run = s.run := rfl
@[simp] theorem State.setPrev_width (s : State) (p : Pixel) : (s.setPrev p).width = s.width := rfl
@[simp] theorem State.setPrev_height (s : State) (p : Pixel) : (s.setPrev p).height = s.height := rfl
@[simp] theorem State.setPrev_channels (s : State) (p : Pixel) : (s.setPrev p).channels = s.channels := rfl
@[simp] theorem State.setPrev_colorspace (s : State) (p : Pixel) : (s.setPrev p).colorspace = s.colorspace := rfl
@[simp] theorem State.setPrev_npix (s : State) (p : Pixel) : (s.setPrev p).npix = s.npix := rfl
@[simp] theorem State.setPrev_pxi (s : State) (p : Pixel) : (s.setPrev p).pxi = s.pxi := rfl
@[simp] theorem State.setPrev_ipos (s : State) (p : Pixel) : (s.setPrev p).ipos = s.ipos := rfl
@[simp] theorem State.setPrev_opos (s : State) (p : Pixel) : (s.setPrev p).opos = s.opos := rfl
@[simp] theorem State.setPrev_mode (s : State) (p : Pixel) : (s.setPrev p).mode = s.mode := rfl
@[simp] theorem State.setPrev_phase (s : State) (p : Pixel) : (s.setPrev p).phase = s.phase := rfl
@[simp] theorem State.setPrev_success (s : State) (p : Pixel) : (s.setPrev p).success = s.success := rfl
@[simp] theorem State.setPrev_cause (s : State) (p : Pixel) : (s.setPrev p).cause = s.cause := rfl
@[simp] theorem State.setPrev_failPos (s : State) (p : Pixel) : (s.setPrev p).failPos = s.failPos := rfl
@[simp] theorem State.setPrev_input (s : State) (p : Pixel) : (s.setPrev p).input = s.input := rfl
@[simp] theorem State.setPrev_output (s : State) (p : Pixel) : (s.setPrev p).output = s.output := rfl
@[simp] theorem State.setPrev_pending (s : State) (p : Pixel) : (s.setPrev p).pending = s.pending := rfl
@[simp] theorem State.setPrev_freeIdx (s : State) (p : Pixel) : (s.setPrev p).freeIdx = s.freeIdx := rfl

@[simp] theorem State.setRun_prev (s : State) (v : BitVec 6) : (s.setRun v).prev = s.prev := rfl
@[simp] theorem State.setRun_hist (s : State) (v : BitVec 6) : (s.setRun v).hist = s.hist := rfl
@[simp] theorem State.setRun_run (s : State) (v : BitVec 6) : (s.setRun v).run = v := rfl
@[simp] theorem State.setRun_width (s : State) (v : BitVec 6) : (s.setRun v).width = s.width := rfl
@[simp] theorem State.setRun_height (s : State) (v : BitVec 6) : (s.setRun v).height = s.height := rfl
@[simp] theorem State.setRun_channels (s : State) (v : BitVec 6) : (s.setRun v).channels = s.channels := rfl
@[simp] theorem State.setRun_colorspace (s : State) (v : BitVec 6) : (s.setRun v).colorspace = s.colorspace := rfl
@[simp] theorem State.setRun_npix (s : State) (v : BitVec 6) : (s.setRun v).npix = s.npix := rfl
@[simp] theorem State.setRun_pxi (s : State) (v : BitVec 6) : (s.setRun v).pxi = s.pxi := rfl
@[simp] theorem State.setRun_ipos (s : State) (v : BitVec 6) : (s.setRun v).ipos = s.ipos := rfl
@[simp] theorem State.setRun_opos (s : State) (v : BitVec 6) : (s.setRun v).opos = s.opos := rfl
@[simp] theorem State.setRun_mode (s : State) (v : BitVec 6) : (s.setRun v).mode = s.mode := rfl
@[simp] theorem State.setRun_phase (s : State) (v : BitVec 6) : (s.setRun v).phase = s.phase := rfl
@[simp] theorem State.setRun_success (s : State) (v : BitVec 6) : (s.setRun v).success = s.success := rfl
@[simp] theorem State.setRun_cause (s : State) (v : BitVec 6) : (s.setRun v).cause = s.cause := rfl
@[simp] theorem State.setRun_failPos (s : State) (v : BitVec 6) : (s.setRun v).failPos = s.failPos := rfl
@[simp] theorem State.setRun_input (s : State) (v : BitVec 6) : (s.setRun v).input = s.input := rfl
@[simp] theorem State.setRun_output (s : State) (v : BitVec 6) : (s.setRun v).output = s.output := rfl
@[simp] theorem State.setRun_pending (s : State) (v : BitVec 6) : (s.setRun v).pending = s.pending := rfl
@[simp] theorem State.setRun_freeIdx (s : State) (v : BitVec 6) : (s.setRun v).freeIdx = s.freeIdx := rfl

@[simp] theorem State.setPxi_prev (s : State) (v : BitVec 64) : (s.setPxi v).prev = s.prev := rfl
@[simp] theorem State.setPxi_hist (s : State) (v : BitVec 64) : (s.setPxi v).hist = s.hist := rfl
@[simp] theorem State.setPxi_run (s : State) (v : BitVec 64) : (s.setPxi v).run = s.run := rfl
@[simp] theorem State.setPxi_width (s : State) (v : BitVec 64) : (s.setPxi v).width = s.width := rfl
@[simp] theorem State.setPxi_height (s : State) (v : BitVec 64) : (s.setPxi v).height = s.height := rfl
@[simp] theorem State.setPxi_channels (s : State) (v : BitVec 64) : (s.setPxi v).channels = s.channels := rfl
@[simp] theorem State.setPxi_colorspace (s : State) (v : BitVec 64) : (s.setPxi v).colorspace = s.colorspace := rfl
@[simp] theorem State.setPxi_npix (s : State) (v : BitVec 64) : (s.setPxi v).npix = s.npix := rfl
@[simp] theorem State.setPxi_pxi (s : State) (v : BitVec 64) : (s.setPxi v).pxi = v := rfl
@[simp] theorem State.setPxi_ipos (s : State) (v : BitVec 64) : (s.setPxi v).ipos = s.ipos := rfl
@[simp] theorem State.setPxi_opos (s : State) (v : BitVec 64) : (s.setPxi v).opos = s.opos := rfl
@[simp] theorem State.setPxi_mode (s : State) (v : BitVec 64) : (s.setPxi v).mode = s.mode := rfl
@[simp] theorem State.setPxi_phase (s : State) (v : BitVec 64) : (s.setPxi v).phase = s.phase := rfl
@[simp] theorem State.setPxi_success (s : State) (v : BitVec 64) : (s.setPxi v).success = s.success := rfl
@[simp] theorem State.setPxi_cause (s : State) (v : BitVec 64) : (s.setPxi v).cause = s.cause := rfl
@[simp] theorem State.setPxi_failPos (s : State) (v : BitVec 64) : (s.setPxi v).failPos = s.failPos := rfl
@[simp] theorem State.setPxi_input (s : State) (v : BitVec 64) : (s.setPxi v).input = s.input := rfl
@[simp] theorem State.setPxi_output (s : State) (v : BitVec 64) : (s.setPxi v).output = s.output := rfl
@[simp] theorem State.setPxi_pending (s : State) (v : BitVec 64) : (s.setPxi v).pending = s.pending := rfl
@[simp] theorem State.setPxi_freeIdx (s : State) (v : BitVec 64) : (s.setPxi v).freeIdx = s.freeIdx := rfl

@[simp] theorem State.setNpix_prev (s : State) (v : BitVec 64) : (s.setNpix v).prev = s.prev := rfl
@[simp] theorem State.setNpix_hist (s : State) (v : BitVec 64) : (s.setNpix v).hist = s.hist := rfl
@[simp] theorem State.setNpix_run (s : State) (v : BitVec 64) : (s.setNpix v).run = s.run := rfl
@[simp] theorem State.setNpix_width (s : State) (v : BitVec 64) : (s.setNpix v).width = s.width := rfl
@[simp] theorem State.setNpix_height (s : State) (v : BitVec 64) : (s.setNpix v).height = s.height := rfl
@[simp] theorem State.setNpix_channels (s : State) (v : BitVec 64) : (s.setNpix v).channels = s.channels := rfl
@[simp] theorem State.setNpix_colorspace (s : State) (v : BitVec 64) : (s.setNpix v).colorspace = s.colorspace := rfl
@[simp] theorem State.setNpix_npix (s : State) (v : BitVec 64) : (s.setNpix v).npix = v := rfl
@[simp] theorem State.setNpix_pxi (s : State) (v : BitVec 64) : (s.setNpix v).pxi = s.pxi := rfl
@[simp] theorem State.setNpix_ipos (s : State) (v : BitVec 64) : (s.setNpix v).ipos = s.ipos := rfl
@[simp] theorem State.setNpix_opos (s : State) (v : BitVec 64) : (s.setNpix v).opos = s.opos := rfl
@[simp] theorem State.setNpix_mode (s : State) (v : BitVec 64) : (s.setNpix v).mode = s.mode := rfl
@[simp] theorem State.setNpix_phase (s : State) (v : BitVec 64) : (s.setNpix v).phase = s.phase := rfl
@[simp] theorem State.setNpix_success (s : State) (v : BitVec 64) : (s.setNpix v).success = s.success := rfl
@[simp] theorem State.setNpix_cause (s : State) (v : BitVec 64) : (s.setNpix v).cause = s.cause := rfl
@[simp] theorem State.setNpix_failPos (s : State) (v : BitVec 64) : (s.setNpix v).failPos = s.failPos := rfl
@[simp] theorem State.setNpix_input (s : State) (v : BitVec 64) : (s.setNpix v).input = s.input := rfl
@[simp] theorem State.setNpix_output (s : State) (v : BitVec 64) : (s.setNpix v).output = s.output := rfl
@[simp] theorem State.setNpix_pending (s : State) (v : BitVec 64) : (s.setNpix v).pending = s.pending := rfl
@[simp] theorem State.setNpix_freeIdx (s : State) (v : BitVec 64) : (s.setNpix v).freeIdx = s.freeIdx := rfl

@[simp] theorem State.setPhase_prev (s : State) (p : Phase) : (s.setPhase p).prev = s.prev := rfl
@[simp] theorem State.setPhase_hist (s : State) (p : Phase) : (s.setPhase p).hist = s.hist := rfl
@[simp] theorem State.setPhase_run (s : State) (p : Phase) : (s.setPhase p).run = s.run := rfl
@[simp] theorem State.setPhase_width (s : State) (p : Phase) : (s.setPhase p).width = s.width := rfl
@[simp] theorem State.setPhase_height (s : State) (p : Phase) : (s.setPhase p).height = s.height := rfl
@[simp] theorem State.setPhase_channels (s : State) (p : Phase) : (s.setPhase p).channels = s.channels := rfl
@[simp] theorem State.setPhase_colorspace (s : State) (p : Phase) : (s.setPhase p).colorspace = s.colorspace := rfl
@[simp] theorem State.setPhase_npix (s : State) (p : Phase) : (s.setPhase p).npix = s.npix := rfl
@[simp] theorem State.setPhase_pxi (s : State) (p : Phase) : (s.setPhase p).pxi = s.pxi := rfl
@[simp] theorem State.setPhase_ipos (s : State) (p : Phase) : (s.setPhase p).ipos = s.ipos := rfl
@[simp] theorem State.setPhase_opos (s : State) (p : Phase) : (s.setPhase p).opos = s.opos := rfl
@[simp] theorem State.setPhase_mode (s : State) (p : Phase) : (s.setPhase p).mode = s.mode := rfl
@[simp] theorem State.setPhase_phase (s : State) (p : Phase) : (s.setPhase p).phase = p := rfl
@[simp] theorem State.setPhase_success (s : State) (p : Phase) : (s.setPhase p).success = s.success := rfl
@[simp] theorem State.setPhase_cause (s : State) (p : Phase) : (s.setPhase p).cause = s.cause := rfl
@[simp] theorem State.setPhase_failPos (s : State) (p : Phase) : (s.setPhase p).failPos = s.failPos := rfl
@[simp] theorem State.setPhase_input (s : State) (p : Phase) : (s.setPhase p).input = s.input := rfl
@[simp] theorem State.setPhase_output (s : State) (p : Phase) : (s.setPhase p).output = s.output := rfl
@[simp] theorem State.setPhase_pending (s : State) (p : Phase) : (s.setPhase p).pending = s.pending := rfl
@[simp] theorem State.setPhase_freeIdx (s : State) (p : Phase) : (s.setPhase p).freeIdx = s.freeIdx := rfl

@[simp] theorem State.setMode_prev (s : State) (m : Mode) : (s.setMode m).prev = s.prev := rfl
@[simp] theorem State.setMode_hist (s : State) (m : Mode) : (s.setMode m).hist = s.hist := rfl
@[simp] theorem State.setMode_run (s : State) (m : Mode) : (s.setMode m).run = s.run := rfl
@[simp] theorem State.setMode_width (s : State) (m : Mode) : (s.setMode m).width = s.width := rfl
@[simp] theorem State.setMode_height (s : State) (m : Mode) : (s.setMode m).height = s.height := rfl
@[simp] theorem State.setMode_channels (s : State) (m : Mode) : (s.setMode m).channels = s.channels := rfl
@[simp] theorem State.setMode_colorspace (s : State) (m : Mode) : (s.setMode m).colorspace = s.colorspace := rfl
@[simp] theorem State.setMode_npix (s : State) (m : Mode) : (s.setMode m).npix = s.npix := rfl
@[simp] theorem State.setMode_pxi (s : State) (m : Mode) : (s.setMode m).pxi = s.pxi := rfl
@[simp] theorem State.setMode_ipos (s : State) (m : Mode) : (s.setMode m).ipos = s.ipos := rfl
@[simp] theorem State.setMode_opos (s : State) (m : Mode) : (s.setMode m).opos = s.opos := rfl
@[simp] theorem State.setMode_mode (s : State) (m : Mode) : (s.setMode m).mode = m := rfl
@[simp] theorem State.setMode_phase (s : State) (m : Mode) : (s.setMode m).phase = s.phase := rfl
@[simp] theorem State.setMode_success (s : State) (m : Mode) : (s.setMode m).success = s.success := rfl
@[simp] theorem State.setMode_cause (s : State) (m : Mode) : (s.setMode m).cause = s.cause := rfl
@[simp] theorem State.setMode_failPos (s : State) (m : Mode) : (s.setMode m).failPos = s.failPos := rfl
@[simp] theorem State.setMode_input (s : State) (m : Mode) : (s.setMode m).input = s.input := rfl
@[simp] theorem State.setMode_output (s : State) (m : Mode) : (s.setMode m).output = s.output := rfl
@[simp] theorem State.setMode_pending (s : State) (m : Mode) : (s.setMode m).pending = s.pending := rfl
@[simp] theorem State.setMode_freeIdx (s : State) (m : Mode) : (s.setMode m).freeIdx = s.freeIdx := rfl

@[simp] theorem State.setParams_prev (s : State) (w h : BitVec 32) (c k : Byte) : (s.setParams w h c k).prev = s.prev := rfl
@[simp] theorem State.setParams_hist (s : State) (w h : BitVec 32) (c k : Byte) : (s.setParams w h c k).hist = s.hist := rfl
@[simp] theorem State.setParams_run (s : State) (w h : BitVec 32) (c k : Byte) : (s.setParams w h c k).run = s.run := rfl
@[simp] theorem State.setParams_width (s : State) (w h : BitVec 32) (c k : Byte) : (s.setParams w h c k).width = w := rfl
@[simp] theorem State.setParams_height (s : State) (w h : BitVec 32) (c k : Byte) : (s.setParams w h c k).height = h := rfl
@[simp] theorem State.setParams_channels (s : State) (w h : BitVec 32) (c k : Byte) : (s.setParams w h c k).channels = c := rfl
@[simp] theorem State.setParams_colorspace (s : State) (w h : BitVec 32) (c k : Byte) : (s.setParams w h c k).colorspace = k := rfl
@[simp] theorem State.setParams_npix (s : State) (w h : BitVec 32) (c k : Byte) : (s.setParams w h c k).npix = s.npix := rfl
@[simp] theorem State.setParams_pxi (s : State) (w h : BitVec 32) (c k : Byte) : (s.setParams w h c k).pxi = s.pxi := rfl
@[simp] theorem State.setParams_ipos (s : State) (w h : BitVec 32) (c k : Byte) : (s.setParams w h c k).ipos = s.ipos := rfl
@[simp] theorem State.setParams_opos (s : State) (w h : BitVec 32) (c k : Byte) : (s.setParams w h c k).opos = s.opos := rfl
@[simp] theorem State.setParams_mode (s : State) (w h : BitVec 32) (c k : Byte) : (s.setParams w h c k).mode = s.mode := rfl
@[simp] theorem State.setParams_phase (s : State) (w h : BitVec 32) (c k : Byte) : (s.setParams w h c k).phase = s.phase := rfl
@[simp] theorem State.setParams_success (s : State) (w h : BitVec 32) (c k : Byte) : (s.setParams w h c k).success = s.success := rfl
@[simp] theorem State.setParams_cause (s : State) (w h : BitVec 32) (c k : Byte) : (s.setParams w h c k).cause = s.cause := rfl
@[simp] theorem State.setParams_failPos (s : State) (w h : BitVec 32) (c k : Byte) : (s.setParams w h c k).failPos = s.failPos := rfl
@[simp] theorem State.setParams_input (s : State) (w h : BitVec 32) (c k : Byte) : (s.setParams w h c k).input = s.input := rfl
@[simp] theorem State.setParams_output (s : State) (w h : BitVec 32) (c k : Byte) : (s.setParams w h c k).output = s.output := rfl
@[simp] theorem State.setParams_pending (s : State) (w h : BitVec 32) (c k : Byte) : (s.setParams w h c k).pending = s.pending := rfl
@[simp] theorem State.setParams_freeIdx (s : State) (w h : BitVec 32) (c k : Byte) : (s.setParams w h c k).freeIdx = s.freeIdx := rfl

@[simp] theorem State.setFailPos_prev (s : State) (n : Nat) : (s.setFailPos n).prev = s.prev := rfl
@[simp] theorem State.setFailPos_hist (s : State) (n : Nat) : (s.setFailPos n).hist = s.hist := rfl
@[simp] theorem State.setFailPos_run (s : State) (n : Nat) : (s.setFailPos n).run = s.run := rfl
@[simp] theorem State.setFailPos_width (s : State) (n : Nat) : (s.setFailPos n).width = s.width := rfl
@[simp] theorem State.setFailPos_height (s : State) (n : Nat) : (s.setFailPos n).height = s.height := rfl
@[simp] theorem State.setFailPos_channels (s : State) (n : Nat) : (s.setFailPos n).channels = s.channels := rfl
@[simp] theorem State.setFailPos_colorspace (s : State) (n : Nat) : (s.setFailPos n).colorspace = s.colorspace := rfl
@[simp] theorem State.setFailPos_npix (s : State) (n : Nat) : (s.setFailPos n).npix = s.npix := rfl
@[simp] theorem State.setFailPos_pxi (s : State) (n : Nat) : (s.setFailPos n).pxi = s.pxi := rfl
@[simp] theorem State.setFailPos_ipos (s : State) (n : Nat) : (s.setFailPos n).ipos = s.ipos := rfl
@[simp] theorem State.setFailPos_opos (s : State) (n : Nat) : (s.setFailPos n).opos = s.opos := rfl
@[simp] theorem State.setFailPos_mode (s : State) (n : Nat) : (s.setFailPos n).mode = s.mode := rfl
@[simp] theorem State.setFailPos_phase (s : State) (n : Nat) : (s.setFailPos n).phase = s.phase := rfl
@[simp] theorem State.setFailPos_success (s : State) (n : Nat) : (s.setFailPos n).success = s.success := rfl
@[simp] theorem State.setFailPos_cause (s : State) (n : Nat) : (s.setFailPos n).cause = s.cause := rfl
@[simp] theorem State.setFailPos_failPos (s : State) (n : Nat) : (s.setFailPos n).failPos = n := rfl
@[simp] theorem State.setFailPos_input (s : State) (n : Nat) : (s.setFailPos n).input = s.input := rfl
@[simp] theorem State.setFailPos_output (s : State) (n : Nat) : (s.setFailPos n).output = s.output := rfl
@[simp] theorem State.setFailPos_pending (s : State) (n : Nat) : (s.setFailPos n).pending = s.pending := rfl
@[simp] theorem State.setFailPos_freeIdx (s : State) (n : Nat) : (s.setFailPos n).freeIdx = s.freeIdx := rfl

@[simp] theorem State.setPending_prev (s : State) (q : List HostMove) : (s.setPending q).prev = s.prev := rfl
@[simp] theorem State.setPending_hist (s : State) (q : List HostMove) : (s.setPending q).hist = s.hist := rfl
@[simp] theorem State.setPending_run (s : State) (q : List HostMove) : (s.setPending q).run = s.run := rfl
@[simp] theorem State.setPending_width (s : State) (q : List HostMove) : (s.setPending q).width = s.width := rfl
@[simp] theorem State.setPending_height (s : State) (q : List HostMove) : (s.setPending q).height = s.height := rfl
@[simp] theorem State.setPending_channels (s : State) (q : List HostMove) : (s.setPending q).channels = s.channels := rfl
@[simp] theorem State.setPending_colorspace (s : State) (q : List HostMove) : (s.setPending q).colorspace = s.colorspace := rfl
@[simp] theorem State.setPending_npix (s : State) (q : List HostMove) : (s.setPending q).npix = s.npix := rfl
@[simp] theorem State.setPending_pxi (s : State) (q : List HostMove) : (s.setPending q).pxi = s.pxi := rfl
@[simp] theorem State.setPending_ipos (s : State) (q : List HostMove) : (s.setPending q).ipos = s.ipos := rfl
@[simp] theorem State.setPending_opos (s : State) (q : List HostMove) : (s.setPending q).opos = s.opos := rfl
@[simp] theorem State.setPending_mode (s : State) (q : List HostMove) : (s.setPending q).mode = s.mode := rfl
@[simp] theorem State.setPending_phase (s : State) (q : List HostMove) : (s.setPending q).phase = s.phase := rfl
@[simp] theorem State.setPending_success (s : State) (q : List HostMove) : (s.setPending q).success = s.success := rfl
@[simp] theorem State.setPending_cause (s : State) (q : List HostMove) : (s.setPending q).cause = s.cause := rfl
@[simp] theorem State.setPending_failPos (s : State) (q : List HostMove) : (s.setPending q).failPos = s.failPos := rfl
@[simp] theorem State.setPending_input (s : State) (q : List HostMove) : (s.setPending q).input = s.input := rfl
@[simp] theorem State.setPending_output (s : State) (q : List HostMove) : (s.setPending q).output = s.output := rfl
@[simp] theorem State.setPending_pending (s : State) (q : List HostMove) : (s.setPending q).pending = q := rfl
@[simp] theorem State.setPending_freeIdx (s : State) (q : List HostMove) : (s.setPending q).freeIdx = s.freeIdx := rfl

@[simp] theorem State.store_prev (s : State) (i : BitVec 6) (p : Pixel) : (s.store i p).prev = s.prev := rfl
@[simp] theorem State.store_hist (s : State) (i : BitVec 6) (p : Pixel) : (s.store i p).hist = s.hist.set i.toNat p i.isLt := rfl
@[simp] theorem State.store_run (s : State) (i : BitVec 6) (p : Pixel) : (s.store i p).run = s.run := rfl
@[simp] theorem State.store_width (s : State) (i : BitVec 6) (p : Pixel) : (s.store i p).width = s.width := rfl
@[simp] theorem State.store_height (s : State) (i : BitVec 6) (p : Pixel) : (s.store i p).height = s.height := rfl
@[simp] theorem State.store_channels (s : State) (i : BitVec 6) (p : Pixel) : (s.store i p).channels = s.channels := rfl
@[simp] theorem State.store_colorspace (s : State) (i : BitVec 6) (p : Pixel) : (s.store i p).colorspace = s.colorspace := rfl
@[simp] theorem State.store_npix (s : State) (i : BitVec 6) (p : Pixel) : (s.store i p).npix = s.npix := rfl
@[simp] theorem State.store_pxi (s : State) (i : BitVec 6) (p : Pixel) : (s.store i p).pxi = s.pxi := rfl
@[simp] theorem State.store_ipos (s : State) (i : BitVec 6) (p : Pixel) : (s.store i p).ipos = s.ipos := rfl
@[simp] theorem State.store_opos (s : State) (i : BitVec 6) (p : Pixel) : (s.store i p).opos = s.opos := rfl
@[simp] theorem State.store_mode (s : State) (i : BitVec 6) (p : Pixel) : (s.store i p).mode = s.mode := rfl
@[simp] theorem State.store_phase (s : State) (i : BitVec 6) (p : Pixel) : (s.store i p).phase = s.phase := rfl
@[simp] theorem State.store_success (s : State) (i : BitVec 6) (p : Pixel) : (s.store i p).success = s.success := rfl
@[simp] theorem State.store_cause (s : State) (i : BitVec 6) (p : Pixel) : (s.store i p).cause = s.cause := rfl
@[simp] theorem State.store_failPos (s : State) (i : BitVec 6) (p : Pixel) : (s.store i p).failPos = s.failPos := rfl
@[simp] theorem State.store_input (s : State) (i : BitVec 6) (p : Pixel) : (s.store i p).input = s.input := rfl
@[simp] theorem State.store_output (s : State) (i : BitVec 6) (p : Pixel) : (s.store i p).output = s.output := rfl
@[simp] theorem State.store_pending (s : State) (i : BitVec 6) (p : Pixel) : (s.store i p).pending = s.pending := rfl
@[simp] theorem State.store_freeIdx (s : State) (i : BitVec 6) (p : Pixel) : (s.store i p).freeIdx = s.freeIdx := rfl

@[simp] theorem State.consume_prev (s : State) (n : Nat) : (s.consume n).prev = s.prev := rfl
@[simp] theorem State.consume_hist (s : State) (n : Nat) : (s.consume n).hist = s.hist := rfl
@[simp] theorem State.consume_run (s : State) (n : Nat) : (s.consume n).run = s.run := rfl
@[simp] theorem State.consume_width (s : State) (n : Nat) : (s.consume n).width = s.width := rfl
@[simp] theorem State.consume_height (s : State) (n : Nat) : (s.consume n).height = s.height := rfl
@[simp] theorem State.consume_channels (s : State) (n : Nat) : (s.consume n).channels = s.channels := rfl
@[simp] theorem State.consume_colorspace (s : State) (n : Nat) : (s.consume n).colorspace = s.colorspace := rfl
@[simp] theorem State.consume_npix (s : State) (n : Nat) : (s.consume n).npix = s.npix := rfl
@[simp] theorem State.consume_pxi (s : State) (n : Nat) : (s.consume n).pxi = s.pxi := rfl
@[simp] theorem State.consume_ipos (s : State) (n : Nat) : (s.consume n).ipos = s.ipos + n := rfl
@[simp] theorem State.consume_opos (s : State) (n : Nat) : (s.consume n).opos = s.opos := rfl
@[simp] theorem State.consume_mode (s : State) (n : Nat) : (s.consume n).mode = s.mode := rfl
@[simp] theorem State.consume_phase (s : State) (n : Nat) : (s.consume n).phase = s.phase := rfl
@[simp] theorem State.consume_success (s : State) (n : Nat) : (s.consume n).success = s.success := rfl
@[simp] theorem State.consume_cause (s : State) (n : Nat) : (s.consume n).cause = s.cause := rfl
@[simp] theorem State.consume_failPos (s : State) (n : Nat) : (s.consume n).failPos = s.failPos := rfl
@[simp] theorem State.consume_input (s : State) (n : Nat) : (s.consume n).input = s.input := rfl
@[simp] theorem State.consume_output (s : State) (n : Nat) : (s.consume n).output = s.output := rfl
@[simp] theorem State.consume_pending (s : State) (n : Nat) : (s.consume n).pending = s.pending := rfl
@[simp] theorem State.consume_freeIdx (s : State) (n : Nat) : (s.consume n).freeIdx = s.freeIdx := rfl

@[simp] theorem State.write_prev (s : State) (bs : List Byte) : (s.write bs).prev = s.prev := rfl
@[simp] theorem State.write_hist (s : State) (bs : List Byte) : (s.write bs).hist = s.hist := rfl
@[simp] theorem State.write_run (s : State) (bs : List Byte) : (s.write bs).run = s.run := rfl
@[simp] theorem State.write_width (s : State) (bs : List Byte) : (s.write bs).width = s.width := rfl
@[simp] theorem State.write_height (s : State) (bs : List Byte) : (s.write bs).height = s.height := rfl
@[simp] theorem State.write_channels (s : State) (bs : List Byte) : (s.write bs).channels = s.channels := rfl
@[simp] theorem State.write_colorspace (s : State) (bs : List Byte) : (s.write bs).colorspace = s.colorspace := rfl
@[simp] theorem State.write_npix (s : State) (bs : List Byte) : (s.write bs).npix = s.npix := rfl
@[simp] theorem State.write_pxi (s : State) (bs : List Byte) : (s.write bs).pxi = s.pxi := rfl
@[simp] theorem State.write_ipos (s : State) (bs : List Byte) : (s.write bs).ipos = s.ipos := rfl
@[simp] theorem State.write_opos (s : State) (bs : List Byte) : (s.write bs).opos = s.opos + bs.length := rfl
@[simp] theorem State.write_mode (s : State) (bs : List Byte) : (s.write bs).mode = s.mode := rfl
@[simp] theorem State.write_phase (s : State) (bs : List Byte) : (s.write bs).phase = s.phase := rfl
@[simp] theorem State.write_success (s : State) (bs : List Byte) : (s.write bs).success = s.success := rfl
@[simp] theorem State.write_cause (s : State) (bs : List Byte) : (s.write bs).cause = s.cause := rfl
@[simp] theorem State.write_failPos (s : State) (bs : List Byte) : (s.write bs).failPos = s.failPos := rfl
@[simp] theorem State.write_input (s : State) (bs : List Byte) : (s.write bs).input = s.input := rfl
@[simp] theorem State.write_output (s : State) (bs : List Byte) : (s.write bs).output = s.output ++ bs := rfl
@[simp] theorem State.write_pending (s : State) (bs : List Byte) : (s.write bs).pending = s.pending := rfl
@[simp] theorem State.write_freeIdx (s : State) (bs : List Byte) : (s.write bs).freeIdx = s.freeIdx := rfl

@[simp] theorem State.openStreams_prev (s : State) (bs : List Byte) : (s.openStreams bs).prev = s.prev := rfl
@[simp] theorem State.openStreams_hist (s : State) (bs : List Byte) : (s.openStreams bs).hist = s.hist := rfl
@[simp] theorem State.openStreams_run (s : State) (bs : List Byte) : (s.openStreams bs).run = s.run := rfl
@[simp] theorem State.openStreams_width (s : State) (bs : List Byte) : (s.openStreams bs).width = s.width := rfl
@[simp] theorem State.openStreams_height (s : State) (bs : List Byte) : (s.openStreams bs).height = s.height := rfl
@[simp] theorem State.openStreams_channels (s : State) (bs : List Byte) : (s.openStreams bs).channels = s.channels := rfl
@[simp] theorem State.openStreams_colorspace (s : State) (bs : List Byte) : (s.openStreams bs).colorspace = s.colorspace := rfl
@[simp] theorem State.openStreams_npix (s : State) (bs : List Byte) : (s.openStreams bs).npix = s.npix := rfl
@[simp] theorem State.openStreams_pxi (s : State) (bs : List Byte) : (s.openStreams bs).pxi = s.pxi := rfl
@[simp] theorem State.openStreams_ipos (s : State) (bs : List Byte) : (s.openStreams bs).ipos = 0 := rfl
@[simp] theorem State.openStreams_opos (s : State) (bs : List Byte) : (s.openStreams bs).opos = 0 := rfl
@[simp] theorem State.openStreams_mode (s : State) (bs : List Byte) : (s.openStreams bs).mode = s.mode := rfl
@[simp] theorem State.openStreams_phase (s : State) (bs : List Byte) : (s.openStreams bs).phase = s.phase := rfl
@[simp] theorem State.openStreams_success (s : State) (bs : List Byte) : (s.openStreams bs).success = s.success := rfl
@[simp] theorem State.openStreams_cause (s : State) (bs : List Byte) : (s.openStreams bs).cause = s.cause := rfl
@[simp] theorem State.openStreams_failPos (s : State) (bs : List Byte) : (s.openStreams bs).failPos = s.failPos := rfl
@[simp] theorem State.openStreams_input (s : State) (bs : List Byte) : (s.openStreams bs).input = bs := rfl
@[simp] theorem State.openStreams_output (s : State) (bs : List Byte) : (s.openStreams bs).output = [] := rfl
@[simp] theorem State.openStreams_pending (s : State) (bs : List Byte) : (s.openStreams bs).pending = s.pending := rfl
@[simp] theorem State.openStreams_freeIdx (s : State) (bs : List Byte) : (s.openStreams bs).freeIdx = s.freeIdx := rfl

@[simp] theorem State.report_prev (s : State) (c : Cause) : (s.report c).prev = s.prev := rfl
@[simp] theorem State.report_hist (s : State) (c : Cause) : (s.report c).hist = s.hist := rfl
@[simp] theorem State.report_run (s : State) (c : Cause) : (s.report c).run = s.run := rfl
@[simp] theorem State.report_width (s : State) (c : Cause) : (s.report c).width = s.width := rfl
@[simp] theorem State.report_height (s : State) (c : Cause) : (s.report c).height = s.height := rfl
@[simp] theorem State.report_channels (s : State) (c : Cause) : (s.report c).channels = s.channels := rfl
@[simp] theorem State.report_colorspace (s : State) (c : Cause) : (s.report c).colorspace = s.colorspace := rfl
@[simp] theorem State.report_npix (s : State) (c : Cause) : (s.report c).npix = s.npix := rfl
@[simp] theorem State.report_pxi (s : State) (c : Cause) : (s.report c).pxi = s.pxi := rfl
@[simp] theorem State.report_ipos (s : State) (c : Cause) : (s.report c).ipos = s.ipos := rfl
@[simp] theorem State.report_opos (s : State) (c : Cause) : (s.report c).opos = s.opos := rfl
@[simp] theorem State.report_mode (s : State) (c : Cause) : (s.report c).mode = s.mode := rfl
@[simp] theorem State.report_phase (s : State) (c : Cause) : (s.report c).phase = s.phase := rfl
@[simp] theorem State.report_success (s : State) (c : Cause) : (s.report c).success = successOf c := rfl
@[simp] theorem State.report_cause (s : State) (c : Cause) : (s.report c).cause = c := rfl
@[simp] theorem State.report_failPos (s : State) (c : Cause) : (s.report c).failPos = s.failPos := rfl
@[simp] theorem State.report_input (s : State) (c : Cause) : (s.report c).input = s.input := rfl
@[simp] theorem State.report_output (s : State) (c : Cause) : (s.report c).output = s.output := rfl
@[simp] theorem State.report_pending (s : State) (c : Cause) : (s.report c).pending = s.pending := rfl
@[simp] theorem State.report_freeIdx (s : State) (c : Cause) : (s.report c).freeIdx = s.freeIdx := rfl

@[simp] theorem State.initCodec_prev (s : State) : s.initCodec.prev = Config.initialPrev := rfl
@[simp] theorem State.initCodec_hist (s : State) : s.initCodec.hist = Vector.replicate 64 Config.emptySlot := rfl
@[simp] theorem State.initCodec_run (s : State) : s.initCodec.run = 0 := rfl
@[simp] theorem State.initCodec_width (s : State) : s.initCodec.width = s.width := rfl
@[simp] theorem State.initCodec_height (s : State) : s.initCodec.height = s.height := rfl
@[simp] theorem State.initCodec_channels (s : State) : s.initCodec.channels = s.channels := rfl
@[simp] theorem State.initCodec_colorspace (s : State) : s.initCodec.colorspace = s.colorspace := rfl
@[simp] theorem State.initCodec_npix (s : State) : s.initCodec.npix = s.npix := rfl
@[simp] theorem State.initCodec_pxi (s : State) : s.initCodec.pxi = 0 := rfl
@[simp] theorem State.initCodec_ipos (s : State) : s.initCodec.ipos = s.ipos := rfl
@[simp] theorem State.initCodec_opos (s : State) : s.initCodec.opos = s.opos := rfl
@[simp] theorem State.initCodec_mode (s : State) : s.initCodec.mode = s.mode := rfl
@[simp] theorem State.initCodec_phase (s : State) : s.initCodec.phase = s.phase := rfl
@[simp] theorem State.initCodec_success (s : State) : s.initCodec.success = s.success := rfl
@[simp] theorem State.initCodec_cause (s : State) : s.initCodec.cause = s.cause := rfl
@[simp] theorem State.initCodec_failPos (s : State) : s.initCodec.failPos = s.failPos := rfl
@[simp] theorem State.initCodec_input (s : State) : s.initCodec.input = s.input := rfl
@[simp] theorem State.initCodec_output (s : State) : s.initCodec.output = s.output := rfl
@[simp] theorem State.initCodec_pending (s : State) : s.initCodec.pending = s.pending := rfl
@[simp] theorem State.initCodec_freeIdx (s : State) : s.initCodec.freeIdx = s.freeIdx := rfl

@[simp] theorem State.forgetStatus_prev (s : State) : s.forgetStatus.prev = s.prev := rfl
@[simp] theorem State.forgetStatus_hist (s : State) : s.forgetStatus.hist = s.hist := rfl
@[simp] theorem State.forgetStatus_run (s : State) : s.forgetStatus.run = s.run := rfl
@[simp] theorem State.forgetStatus_width (s : State) : s.forgetStatus.width = s.width := rfl
@[simp] theorem State.forgetStatus_height (s : State) : s.forgetStatus.height = s.height := rfl
@[simp] theorem State.forgetStatus_channels (s : State) : s.forgetStatus.channels = s.channels := rfl
@[simp] theorem State.forgetStatus_colorspace (s : State) : s.forgetStatus.colorspace = s.colorspace := rfl
@[simp] theorem State.forgetStatus_npix (s : State) : s.forgetStatus.npix = Config.freeNpix s.freeIdx := rfl
@[simp] theorem State.forgetStatus_pxi (s : State) : s.forgetStatus.pxi = s.pxi := rfl
@[simp] theorem State.forgetStatus_ipos (s : State) : s.forgetStatus.ipos = s.ipos := rfl
@[simp] theorem State.forgetStatus_opos (s : State) : s.forgetStatus.opos = s.opos := rfl
@[simp] theorem State.forgetStatus_mode (s : State) : s.forgetStatus.mode = s.mode := rfl
@[simp] theorem State.forgetStatus_phase (s : State) : s.forgetStatus.phase = s.phase := rfl
@[simp] theorem State.forgetStatus_success (s : State) : s.forgetStatus.success = Config.freeSuccess s.freeIdx := rfl
@[simp] theorem State.forgetStatus_cause (s : State) : s.forgetStatus.cause = Config.freeCause s.freeIdx := rfl
@[simp] theorem State.forgetStatus_failPos (s : State) : s.forgetStatus.failPos = s.failPos := rfl
@[simp] theorem State.forgetStatus_input (s : State) : s.forgetStatus.input = s.input := rfl
@[simp] theorem State.forgetStatus_output (s : State) : s.forgetStatus.output = s.output := rfl
@[simp] theorem State.forgetStatus_pending (s : State) : s.forgetStatus.pending = s.pending := rfl
@[simp] theorem State.forgetStatus_freeIdx (s : State) : s.forgetStatus.freeIdx = s.freeIdx + 1 := rfl

@[simp] theorem State.forgetParams_prev (s : State) : s.forgetParams.prev = s.prev := rfl
@[simp] theorem State.forgetParams_hist (s : State) : s.forgetParams.hist = s.hist := rfl
@[simp] theorem State.forgetParams_run (s : State) : s.forgetParams.run = s.run := rfl
@[simp] theorem State.forgetParams_width (s : State) : s.forgetParams.width = Config.freeWidth s.freeIdx := rfl
@[simp] theorem State.forgetParams_height (s : State) : s.forgetParams.height = Config.freeHeight s.freeIdx := rfl
@[simp] theorem State.forgetParams_channels (s : State) : s.forgetParams.channels = Config.freeChannels s.freeIdx := rfl
@[simp] theorem State.forgetParams_colorspace (s : State) : s.forgetParams.colorspace = Config.freeColorspace s.freeIdx := rfl
@[simp] theorem State.forgetParams_npix (s : State) : s.forgetParams.npix = s.npix := rfl
@[simp] theorem State.forgetParams_pxi (s : State) : s.forgetParams.pxi = s.pxi := rfl
@[simp] theorem State.forgetParams_ipos (s : State) : s.forgetParams.ipos = s.ipos := rfl
@[simp] theorem State.forgetParams_opos (s : State) : s.forgetParams.opos = s.opos := rfl
@[simp] theorem State.forgetParams_mode (s : State) : s.forgetParams.mode = s.mode := rfl
@[simp] theorem State.forgetParams_phase (s : State) : s.forgetParams.phase = s.phase := rfl
@[simp] theorem State.forgetParams_success (s : State) : s.forgetParams.success = s.success := rfl
@[simp] theorem State.forgetParams_cause (s : State) : s.forgetParams.cause = s.cause := rfl
@[simp] theorem State.forgetParams_failPos (s : State) : s.forgetParams.failPos = s.failPos := rfl
@[simp] theorem State.forgetParams_input (s : State) : s.forgetParams.input = s.input := rfl
@[simp] theorem State.forgetParams_output (s : State) : s.forgetParams.output = s.output := rfl
@[simp] theorem State.forgetParams_pending (s : State) : s.forgetParams.pending = s.pending := rfl
@[simp] theorem State.forgetParams_freeIdx (s : State) : s.forgetParams.freeIdx = s.freeIdx + 1 := rfl

@[simp] theorem State.forgetCodec_prev (s : State) : s.forgetCodec.prev = Config.freePrev s.freeIdx := rfl
@[simp] theorem State.forgetCodec_hist (s : State) : s.forgetCodec.hist = Config.freeHist s.freeIdx := rfl
@[simp] theorem State.forgetCodec_run (s : State) : s.forgetCodec.run = Config.freeRun s.freeIdx := rfl
@[simp] theorem State.forgetCodec_width (s : State) : s.forgetCodec.width = s.width := rfl
@[simp] theorem State.forgetCodec_height (s : State) : s.forgetCodec.height = s.height := rfl
@[simp] theorem State.forgetCodec_channels (s : State) : s.forgetCodec.channels = s.channels := rfl
@[simp] theorem State.forgetCodec_colorspace (s : State) : s.forgetCodec.colorspace = s.colorspace := rfl
@[simp] theorem State.forgetCodec_npix (s : State) : s.forgetCodec.npix = Config.freeNpix s.freeIdx := rfl
@[simp] theorem State.forgetCodec_pxi (s : State) : s.forgetCodec.pxi = Config.freePxi s.freeIdx := rfl
@[simp] theorem State.forgetCodec_ipos (s : State) : s.forgetCodec.ipos = s.ipos := rfl
@[simp] theorem State.forgetCodec_opos (s : State) : s.forgetCodec.opos = s.opos := rfl
@[simp] theorem State.forgetCodec_mode (s : State) : s.forgetCodec.mode = Config.freeMode s.freeIdx := rfl
@[simp] theorem State.forgetCodec_phase (s : State) : s.forgetCodec.phase = s.phase := rfl
@[simp] theorem State.forgetCodec_success (s : State) : s.forgetCodec.success = s.success := rfl
@[simp] theorem State.forgetCodec_cause (s : State) : s.forgetCodec.cause = s.cause := rfl
@[simp] theorem State.forgetCodec_failPos (s : State) : s.forgetCodec.failPos = s.failPos := rfl
@[simp] theorem State.forgetCodec_input (s : State) : s.forgetCodec.input = s.input := rfl
@[simp] theorem State.forgetCodec_output (s : State) : s.forgetCodec.output = s.output := rfl
@[simp] theorem State.forgetCodec_pending (s : State) : s.forgetCodec.pending = s.pending := rfl
@[simp] theorem State.forgetCodec_freeIdx (s : State) : s.forgetCodec.freeIdx = s.freeIdx + 1 := rfl

end Sys2Proof.Machine
end

