-- ==== Sys2Proof/Laws/Frame.lean ====
section
/-! SUPPORT. The frame of each composite operation: the fields it leaves alone, and those it sets to one value. -/

namespace Sys2Proof.Machine

@[simp] theorem State.remember_prev (s : State) (p : Pixel) : (s.remember p).prev = s.prev := rfl
@[simp] theorem State.remember_run (s : State) (p : Pixel) : (s.remember p).run = s.run := rfl
@[simp] theorem State.remember_width (s : State) (p : Pixel) : (s.remember p).width = s.width := rfl
@[simp] theorem State.remember_height (s : State) (p : Pixel) : (s.remember p).height = s.height := rfl
@[simp] theorem State.remember_channels (s : State) (p : Pixel) : (s.remember p).channels = s.channels := rfl
@[simp] theorem State.remember_colorspace (s : State) (p : Pixel) : (s.remember p).colorspace = s.colorspace := rfl
@[simp] theorem State.remember_npix (s : State) (p : Pixel) : (s.remember p).npix = s.npix := rfl
@[simp] theorem State.remember_pxi (s : State) (p : Pixel) : (s.remember p).pxi = s.pxi := rfl
@[simp] theorem State.remember_ipos (s : State) (p : Pixel) : (s.remember p).ipos = s.ipos := rfl
@[simp] theorem State.remember_opos (s : State) (p : Pixel) : (s.remember p).opos = s.opos := rfl
@[simp] theorem State.remember_mode (s : State) (p : Pixel) : (s.remember p).mode = s.mode := rfl
@[simp] theorem State.remember_phase (s : State) (p : Pixel) : (s.remember p).phase = s.phase := rfl
@[simp] theorem State.remember_success (s : State) (p : Pixel) : (s.remember p).success = s.success := rfl
@[simp] theorem State.remember_cause (s : State) (p : Pixel) : (s.remember p).cause = s.cause := rfl
@[simp] theorem State.remember_failPos (s : State) (p : Pixel) : (s.remember p).failPos = s.failPos := rfl
@[simp] theorem State.remember_input (s : State) (p : Pixel) : (s.remember p).input = s.input := rfl
@[simp] theorem State.remember_output (s : State) (p : Pixel) : (s.remember p).output = s.output := rfl
@[simp] theorem State.remember_pending (s : State) (p : Pixel) : (s.remember p).pending = s.pending := rfl
@[simp] theorem State.remember_freeIdx (s : State) (p : Pixel) : (s.remember p).freeIdx = s.freeIdx := rfl
@[simp] theorem State.remember_hist (s : State) (p : Pixel) : (s.remember p).hist = s.hist.set (slotOf p).toNat p (slotOf p).isLt := rfl

@[simp] theorem State.emit_prev (s : State) (i : Instr) : (s.emit i).prev = s.prev := rfl
@[simp] theorem State.emit_hist (s : State) (i : Instr) : (s.emit i).hist = s.hist := rfl
@[simp] theorem State.emit_run (s : State) (i : Instr) : (s.emit i).run = s.run := rfl
@[simp] theorem State.emit_width (s : State) (i : Instr) : (s.emit i).width = s.width := rfl
@[simp] theorem State.emit_height (s : State) (i : Instr) : (s.emit i).height = s.height := rfl
@[simp] theorem State.emit_channels (s : State) (i : Instr) : (s.emit i).channels = s.channels := rfl
@[simp] theorem State.emit_colorspace (s : State) (i : Instr) : (s.emit i).colorspace = s.colorspace := rfl
@[simp] theorem State.emit_npix (s : State) (i : Instr) : (s.emit i).npix = s.npix := rfl
@[simp] theorem State.emit_pxi (s : State) (i : Instr) : (s.emit i).pxi = s.pxi := rfl
@[simp] theorem State.emit_ipos (s : State) (i : Instr) : (s.emit i).ipos = s.ipos := rfl
@[simp] theorem State.emit_mode (s : State) (i : Instr) : (s.emit i).mode = s.mode := rfl
@[simp] theorem State.emit_phase (s : State) (i : Instr) : (s.emit i).phase = s.phase := rfl
@[simp] theorem State.emit_success (s : State) (i : Instr) : (s.emit i).success = s.success := rfl
@[simp] theorem State.emit_cause (s : State) (i : Instr) : (s.emit i).cause = s.cause := rfl
@[simp] theorem State.emit_failPos (s : State) (i : Instr) : (s.emit i).failPos = s.failPos := rfl
@[simp] theorem State.emit_input (s : State) (i : Instr) : (s.emit i).input = s.input := rfl
@[simp] theorem State.emit_pending (s : State) (i : Instr) : (s.emit i).pending = s.pending := rfl
@[simp] theorem State.emit_freeIdx (s : State) (i : Instr) : (s.emit i).freeIdx = s.freeIdx := rfl
@[simp] theorem State.emit_output (s : State) (i : Instr) : (s.emit i).output = s.output ++ encode i := rfl
@[simp] theorem State.emit_opos (s : State) (i : Instr) : (s.emit i).opos = s.opos + (encode i).length := rfl

@[simp] theorem State.loopTest_prev (s : State) : s.loopTest.prev = s.prev := by unfold State.loopTest; split <;> rfl
@[simp] theorem State.loopTest_hist (s : State) : s.loopTest.hist = s.hist := by unfold State.loopTest; split <;> rfl
@[simp] theorem State.loopTest_run (s : State) : s.loopTest.run = s.run := by unfold State.loopTest; split <;> rfl
@[simp] theorem State.loopTest_width (s : State) : s.loopTest.width = s.width := by unfold State.loopTest; split <;> rfl
@[simp] theorem State.loopTest_height (s : State) : s.loopTest.height = s.height := by unfold State.loopTest; split <;> rfl
@[simp] theorem State.loopTest_channels (s : State) : s.loopTest.channels = s.channels := by unfold State.loopTest; split <;> rfl
@[simp] theorem State.loopTest_colorspace (s : State) : s.loopTest.colorspace = s.colorspace := by unfold State.loopTest; split <;> rfl
@[simp] theorem State.loopTest_npix (s : State) : s.loopTest.npix = s.npix := by unfold State.loopTest; split <;> rfl
@[simp] theorem State.loopTest_pxi (s : State) : s.loopTest.pxi = s.pxi := by unfold State.loopTest; split <;> rfl
@[simp] theorem State.loopTest_ipos (s : State) : s.loopTest.ipos = s.ipos := by unfold State.loopTest; split <;> rfl
@[simp] theorem State.loopTest_opos (s : State) : s.loopTest.opos = s.opos := by unfold State.loopTest; split <;> rfl
@[simp] theorem State.loopTest_mode (s : State) : s.loopTest.mode = s.mode := by unfold State.loopTest; split <;> rfl
@[simp] theorem State.loopTest_success (s : State) : s.loopTest.success = s.success := by unfold State.loopTest; split <;> rfl
@[simp] theorem State.loopTest_cause (s : State) : s.loopTest.cause = s.cause := by unfold State.loopTest; split <;> rfl
@[simp] theorem State.loopTest_failPos (s : State) : s.loopTest.failPos = s.failPos := by unfold State.loopTest; split <;> rfl
@[simp] theorem State.loopTest_input (s : State) : s.loopTest.input = s.input := by unfold State.loopTest; split <;> rfl
@[simp] theorem State.loopTest_output (s : State) : s.loopTest.output = s.output := by unfold State.loopTest; split <;> rfl
@[simp] theorem State.loopTest_pending (s : State) : s.loopTest.pending = s.pending := by unfold State.loopTest; split <;> rfl
@[simp] theorem State.loopTest_freeIdx (s : State) : s.loopTest.freeIdx = s.freeIdx := by unfold State.loopTest; split <;> rfl

@[simp] theorem State.endPixel_prev (s : State) : s.endPixel.prev = s.prev := by simp [State.endPixel]
@[simp] theorem State.endPixel_hist (s : State) : s.endPixel.hist = s.hist := by simp [State.endPixel]
@[simp] theorem State.endPixel_run (s : State) : s.endPixel.run = s.run := by simp [State.endPixel]
@[simp] theorem State.endPixel_width (s : State) : s.endPixel.width = s.width := by simp [State.endPixel]
@[simp] theorem State.endPixel_height (s : State) : s.endPixel.height = s.height := by simp [State.endPixel]
@[simp] theorem State.endPixel_channels (s : State) : s.endPixel.channels = s.channels := by simp [State.endPixel]
@[simp] theorem State.endPixel_colorspace (s : State) : s.endPixel.colorspace = s.colorspace := by simp [State.endPixel]
@[simp] theorem State.endPixel_npix (s : State) : s.endPixel.npix = s.npix := by simp [State.endPixel]
@[simp] theorem State.endPixel_ipos (s : State) : s.endPixel.ipos = s.ipos := by simp [State.endPixel]
@[simp] theorem State.endPixel_opos (s : State) : s.endPixel.opos = s.opos := by simp [State.endPixel]
@[simp] theorem State.endPixel_mode (s : State) : s.endPixel.mode = s.mode := by simp [State.endPixel]
@[simp] theorem State.endPixel_success (s : State) : s.endPixel.success = s.success := by simp [State.endPixel]
@[simp] theorem State.endPixel_cause (s : State) : s.endPixel.cause = s.cause := by simp [State.endPixel]
@[simp] theorem State.endPixel_failPos (s : State) : s.endPixel.failPos = s.failPos := by simp [State.endPixel]
@[simp] theorem State.endPixel_input (s : State) : s.endPixel.input = s.input := by simp [State.endPixel]
@[simp] theorem State.endPixel_output (s : State) : s.endPixel.output = s.output := by simp [State.endPixel]
@[simp] theorem State.endPixel_pending (s : State) : s.endPixel.pending = s.pending := by simp [State.endPixel]
@[simp] theorem State.endPixel_freeIdx (s : State) : s.endPixel.freeIdx = s.freeIdx := by simp [State.endPixel]
@[simp] theorem State.endPixel_pxi (s : State) : s.endPixel.pxi = s.pxi + 1 := by simp [State.endPixel]

@[simp] theorem State.emitPixel_prev (s : State) : s.emitPixel.prev = s.prev := by unfold State.emitPixel; split <;> rfl
@[simp] theorem State.emitPixel_hist (s : State) : s.emitPixel.hist = s.hist := by unfold State.emitPixel; split <;> rfl
@[simp] theorem State.emitPixel_run (s : State) : s.emitPixel.run = s.run := by unfold State.emitPixel; split <;> rfl
@[simp] theorem State.emitPixel_width (s : State) : s.emitPixel.width = s.width := by unfold State.emitPixel; split <;> rfl
@[simp] theorem State.emitPixel_height (s : State) : s.emitPixel.height = s.height := by unfold State.emitPixel; split <;> rfl
@[simp] theorem State.emitPixel_channels (s : State) : s.emitPixel.channels = s.channels := by unfold State.emitPixel; split <;> rfl
@[simp] theorem State.emitPixel_colorspace (s : State) : s.emitPixel.colorspace = s.colorspace := by unfold State.emitPixel; split <;> rfl
@[simp] theorem State.emitPixel_npix (s : State) : s.emitPixel.npix = s.npix := by unfold State.emitPixel; split <;> rfl
@[simp] theorem State.emitPixel_pxi (s : State) : s.emitPixel.pxi = s.pxi := by unfold State.emitPixel; split <;> rfl
@[simp] theorem State.emitPixel_ipos (s : State) : s.emitPixel.ipos = s.ipos := by unfold State.emitPixel; split <;> rfl
@[simp] theorem State.emitPixel_mode (s : State) : s.emitPixel.mode = s.mode := by unfold State.emitPixel; split <;> rfl
@[simp] theorem State.emitPixel_phase (s : State) : s.emitPixel.phase = s.phase := by unfold State.emitPixel; split <;> rfl
@[simp] theorem State.emitPixel_success (s : State) : s.emitPixel.success = s.success := by unfold State.emitPixel; split <;> rfl
@[simp] theorem State.emitPixel_cause (s : State) : s.emitPixel.cause = s.cause := by unfold State.emitPixel; split <;> rfl
@[simp] theorem State.emitPixel_failPos (s : State) : s.emitPixel.failPos = s.failPos := by unfold State.emitPixel; split <;> rfl
@[simp] theorem State.emitPixel_input (s : State) : s.emitPixel.input = s.input := by unfold State.emitPixel; split <;> rfl
@[simp] theorem State.emitPixel_pending (s : State) : s.emitPixel.pending = s.pending := by unfold State.emitPixel; split <;> rfl
@[simp] theorem State.emitPixel_freeIdx (s : State) : s.emitPixel.freeIdx = s.freeIdx := by unfold State.emitPixel; split <;> rfl

@[simp] theorem State.finishChunk_prev (s : State) : s.finishChunk.prev = s.prev := by simp [State.finishChunk]
@[simp] theorem State.finishChunk_run (s : State) : s.finishChunk.run = s.run := by simp [State.finishChunk]
@[simp] theorem State.finishChunk_width (s : State) : s.finishChunk.width = s.width := by simp [State.finishChunk]
@[simp] theorem State.finishChunk_height (s : State) : s.finishChunk.height = s.height := by simp [State.finishChunk]
@[simp] theorem State.finishChunk_channels (s : State) : s.finishChunk.channels = s.channels := by simp [State.finishChunk]
@[simp] theorem State.finishChunk_colorspace (s : State) : s.finishChunk.colorspace = s.colorspace := by simp [State.finishChunk]
@[simp] theorem State.finishChunk_npix (s : State) : s.finishChunk.npix = s.npix := by simp [State.finishChunk]
@[simp] theorem State.finishChunk_ipos (s : State) : s.finishChunk.ipos = s.ipos := by simp [State.finishChunk]
@[simp] theorem State.finishChunk_mode (s : State) : s.finishChunk.mode = s.mode := by simp [State.finishChunk]
@[simp] theorem State.finishChunk_success (s : State) : s.finishChunk.success = s.success := by simp [State.finishChunk]
@[simp] theorem State.finishChunk_cause (s : State) : s.finishChunk.cause = s.cause := by simp [State.finishChunk]
@[simp] theorem State.finishChunk_failPos (s : State) : s.finishChunk.failPos = s.failPos := by simp [State.finishChunk]
@[simp] theorem State.finishChunk_input (s : State) : s.finishChunk.input = s.input := by simp [State.finishChunk]
@[simp] theorem State.finishChunk_pending (s : State) : s.finishChunk.pending = s.pending := by simp [State.finishChunk]
@[simp] theorem State.finishChunk_freeIdx (s : State) : s.finishChunk.freeIdx = s.freeIdx := by simp [State.finishChunk]
@[simp] theorem State.finishChunk_pxi (s : State) : s.finishChunk.pxi = s.pxi + 1 := by simp [State.finishChunk]

@[simp] theorem State.finish_prev (s : State) (c : Cause) (p : Phase) : (s.finish c p).prev = s.prev := rfl
@[simp] theorem State.finish_hist (s : State) (c : Cause) (p : Phase) : (s.finish c p).hist = s.hist := rfl
@[simp] theorem State.finish_run (s : State) (c : Cause) (p : Phase) : (s.finish c p).run = s.run := rfl
@[simp] theorem State.finish_width (s : State) (c : Cause) (p : Phase) : (s.finish c p).width = s.width := rfl
@[simp] theorem State.finish_height (s : State) (c : Cause) (p : Phase) : (s.finish c p).height = s.height := rfl
@[simp] theorem State.finish_channels (s : State) (c : Cause) (p : Phase) : (s.finish c p).channels = s.channels := rfl
@[simp] theorem State.finish_colorspace (s : State) (c : Cause) (p : Phase) : (s.finish c p).colorspace = s.colorspace := rfl
@[simp] theorem State.finish_npix (s : State) (c : Cause) (p : Phase) : (s.finish c p).npix = s.npix := rfl
@[simp] theorem State.finish_pxi (s : State) (c : Cause) (p : Phase) : (s.finish c p).pxi = s.pxi := rfl
@[simp] theorem State.finish_ipos (s : State) (c : Cause) (p : Phase) : (s.finish c p).ipos = s.ipos := rfl
@[simp] theorem State.finish_opos (s : State) (c : Cause) (p : Phase) : (s.finish c p).opos = s.opos := rfl
@[simp] theorem State.finish_mode (s : State) (c : Cause) (p : Phase) : (s.finish c p).mode = s.mode := rfl
@[simp] theorem State.finish_failPos (s : State) (c : Cause) (p : Phase) : (s.finish c p).failPos = s.failPos := rfl
@[simp] theorem State.finish_input (s : State) (c : Cause) (p : Phase) : (s.finish c p).input = s.input := rfl
@[simp] theorem State.finish_output (s : State) (c : Cause) (p : Phase) : (s.finish c p).output = s.output := rfl
@[simp] theorem State.finish_pending (s : State) (c : Cause) (p : Phase) : (s.finish c p).pending = s.pending := rfl
@[simp] theorem State.finish_freeIdx (s : State) (c : Cause) (p : Phase) : (s.finish c p).freeIdx = s.freeIdx := rfl
@[simp] theorem State.finish_success (s : State) (c : Cause) (p : Phase) : (s.finish c p).success = successOf c := rfl
@[simp] theorem State.finish_cause (s : State) (c : Cause) (p : Phase) : (s.finish c p).cause = c := rfl
@[simp] theorem State.finish_phase (s : State) (c : Cause) (p : Phase) : (s.finish c p).phase = p := rfl

@[simp] theorem State.emitRunOf_prev (s : State) (n : Nat) : (s.emitRunOf n).prev = s.prev := rfl
@[simp] theorem State.emitRunOf_hist (s : State) (n : Nat) : (s.emitRunOf n).hist = s.hist := rfl
@[simp] theorem State.emitRunOf_width (s : State) (n : Nat) : (s.emitRunOf n).width = s.width := rfl
@[simp] theorem State.emitRunOf_height (s : State) (n : Nat) : (s.emitRunOf n).height = s.height := rfl
@[simp] theorem State.emitRunOf_channels (s : State) (n : Nat) : (s.emitRunOf n).channels = s.channels := rfl
@[simp] theorem State.emitRunOf_colorspace (s : State) (n : Nat) : (s.emitRunOf n).colorspace = s.colorspace := rfl
@[simp] theorem State.emitRunOf_npix (s : State) (n : Nat) : (s.emitRunOf n).npix = s.npix := rfl
@[simp] theorem State.emitRunOf_pxi (s : State) (n : Nat) : (s.emitRunOf n).pxi = s.pxi := rfl
@[simp] theorem State.emitRunOf_ipos (s : State) (n : Nat) : (s.emitRunOf n).ipos = s.ipos := rfl
@[simp] theorem State.emitRunOf_mode (s : State) (n : Nat) : (s.emitRunOf n).mode = s.mode := rfl
@[simp] theorem State.emitRunOf_phase (s : State) (n : Nat) : (s.emitRunOf n).phase = s.phase := rfl
@[simp] theorem State.emitRunOf_success (s : State) (n : Nat) : (s.emitRunOf n).success = s.success := rfl
@[simp] theorem State.emitRunOf_cause (s : State) (n : Nat) : (s.emitRunOf n).cause = s.cause := rfl
@[simp] theorem State.emitRunOf_failPos (s : State) (n : Nat) : (s.emitRunOf n).failPos = s.failPos := rfl
@[simp] theorem State.emitRunOf_input (s : State) (n : Nat) : (s.emitRunOf n).input = s.input := rfl
@[simp] theorem State.emitRunOf_pending (s : State) (n : Nat) : (s.emitRunOf n).pending = s.pending := rfl
@[simp] theorem State.emitRunOf_freeIdx (s : State) (n : Nat) : (s.emitRunOf n).freeIdx = s.freeIdx := rfl
@[simp] theorem State.emitRunOf_run (s : State) (n : Nat) : (s.emitRunOf n).run = 0 := rfl
@[simp] theorem State.emitRunOf_output (s : State) (n : Nat) : (s.emitRunOf n).output = s.output ++ encode (.run n) := rfl
@[simp] theorem State.emitRunOf_opos (s : State) (n : Nat) : (s.emitRunOf n).opos = s.opos + 1 := rfl

@[simp] theorem State.emitRun_prev (s : State) : s.emitRun.prev = s.prev := rfl
@[simp] theorem State.emitRun_hist (s : State) : s.emitRun.hist = s.hist := rfl
@[simp] theorem State.emitRun_width (s : State) : s.emitRun.width = s.width := rfl
@[simp] theorem State.emitRun_height (s : State) : s.emitRun.height = s.height := rfl
@[simp] theorem State.emitRun_channels (s : State) : s.emitRun.channels = s.channels := rfl
@[simp] theorem State.emitRun_colorspace (s : State) : s.emitRun.colorspace = s.colorspace := rfl
@[simp] theorem State.emitRun_npix (s : State) : s.emitRun.npix = s.npix := rfl
@[simp] theorem State.emitRun_pxi (s : State) : s.emitRun.pxi = s.pxi := rfl
@[simp] theorem State.emitRun_ipos (s : State) : s.emitRun.ipos = s.ipos := rfl
@[simp] theorem State.emitRun_mode (s : State) : s.emitRun.mode = s.mode := rfl
@[simp] theorem State.emitRun_phase (s : State) : s.emitRun.phase = s.phase := rfl
@[simp] theorem State.emitRun_success (s : State) : s.emitRun.success = s.success := rfl
@[simp] theorem State.emitRun_cause (s : State) : s.emitRun.cause = s.cause := rfl
@[simp] theorem State.emitRun_failPos (s : State) : s.emitRun.failPos = s.failPos := rfl
@[simp] theorem State.emitRun_input (s : State) : s.emitRun.input = s.input := rfl
@[simp] theorem State.emitRun_pending (s : State) : s.emitRun.pending = s.pending := rfl
@[simp] theorem State.emitRun_freeIdx (s : State) : s.emitRun.freeIdx = s.freeIdx := rfl
@[simp] theorem State.emitRun_run (s : State) : s.emitRun.run = 0 := rfl
@[simp] theorem State.emitRun_output (s : State) : s.emitRun.output = s.output ++ encode (.run s.run.toNat) := rfl
@[simp] theorem State.emitRun_opos (s : State) : s.emitRun.opos = s.opos + 1 := rfl

@[simp] theorem State.countRun_prev (s : State) : s.countRun.prev = s.prev := by unfold State.countRun; dsimp only; split <;> rfl
@[simp] theorem State.countRun_hist (s : State) : s.countRun.hist = s.hist := by unfold State.countRun; dsimp only; split <;> rfl
@[simp] theorem State.countRun_width (s : State) : s.countRun.width = s.width := by unfold State.countRun; dsimp only; split <;> rfl
@[simp] theorem State.countRun_height (s : State) : s.countRun.height = s.height := by unfold State.countRun; dsimp only; split <;> rfl
@[simp] theorem State.countRun_channels (s : State) : s.countRun.channels = s.channels := by unfold State.countRun; dsimp only; split <;> rfl
@[simp] theorem State.countRun_colorspace (s : State) : s.countRun.colorspace = s.colorspace := by unfold State.countRun; dsimp only; split <;> rfl
@[simp] theorem State.countRun_npix (s : State) : s.countRun.npix = s.npix := by unfold State.countRun; dsimp only; split <;> rfl
@[simp] theorem State.countRun_pxi (s : State) : s.countRun.pxi = s.pxi := by unfold State.countRun; dsimp only; split <;> rfl
@[simp] theorem State.countRun_ipos (s : State) : s.countRun.ipos = s.ipos := by unfold State.countRun; dsimp only; split <;> rfl
@[simp] theorem State.countRun_mode (s : State) : s.countRun.mode = s.mode := by unfold State.countRun; dsimp only; split <;> rfl
@[simp] theorem State.countRun_phase (s : State) : s.countRun.phase = s.phase := by unfold State.countRun; dsimp only; split <;> rfl
@[simp] theorem State.countRun_success (s : State) : s.countRun.success = s.success := by unfold State.countRun; dsimp only; split <;> rfl
@[simp] theorem State.countRun_cause (s : State) : s.countRun.cause = s.cause := by unfold State.countRun; dsimp only; split <;> rfl
@[simp] theorem State.countRun_failPos (s : State) : s.countRun.failPos = s.failPos := by unfold State.countRun; dsimp only; split <;> rfl
@[simp] theorem State.countRun_input (s : State) : s.countRun.input = s.input := by unfold State.countRun; dsimp only; split <;> rfl
@[simp] theorem State.countRun_pending (s : State) : s.countRun.pending = s.pending := by unfold State.countRun; dsimp only; split <;> rfl
@[simp] theorem State.countRun_freeIdx (s : State) : s.countRun.freeIdx = s.freeIdx := by unfold State.countRun; dsimp only; split <;> rfl

@[simp] theorem State.flushRun_prev (s : State) : s.flushRun.prev = s.prev := by unfold State.flushRun; split <;> rfl
@[simp] theorem State.flushRun_hist (s : State) : s.flushRun.hist = s.hist := by unfold State.flushRun; split <;> rfl
@[simp] theorem State.flushRun_width (s : State) : s.flushRun.width = s.width := by unfold State.flushRun; split <;> rfl
@[simp] theorem State.flushRun_height (s : State) : s.flushRun.height = s.height := by unfold State.flushRun; split <;> rfl
@[simp] theorem State.flushRun_channels (s : State) : s.flushRun.channels = s.channels := by unfold State.flushRun; split <;> rfl
@[simp] theorem State.flushRun_colorspace (s : State) : s.flushRun.colorspace = s.colorspace := by unfold State.flushRun; split <;> rfl
@[simp] theorem State.flushRun_npix (s : State) : s.flushRun.npix = s.npix := by unfold State.flushRun; split <;> rfl
@[simp] theorem State.flushRun_pxi (s : State) : s.flushRun.pxi = s.pxi := by unfold State.flushRun; split <;> rfl
@[simp] theorem State.flushRun_ipos (s : State) : s.flushRun.ipos = s.ipos := by unfold State.flushRun; split <;> rfl
@[simp] theorem State.flushRun_mode (s : State) : s.flushRun.mode = s.mode := by unfold State.flushRun; split <;> rfl
@[simp] theorem State.flushRun_phase (s : State) : s.flushRun.phase = s.phase := by unfold State.flushRun; split <;> rfl
@[simp] theorem State.flushRun_success (s : State) : s.flushRun.success = s.success := by unfold State.flushRun; split <;> rfl
@[simp] theorem State.flushRun_cause (s : State) : s.flushRun.cause = s.cause := by unfold State.flushRun; split <;> rfl
@[simp] theorem State.flushRun_failPos (s : State) : s.flushRun.failPos = s.failPos := by unfold State.flushRun; split <;> rfl
@[simp] theorem State.flushRun_input (s : State) : s.flushRun.input = s.input := by unfold State.flushRun; split <;> rfl
@[simp] theorem State.flushRun_pending (s : State) : s.flushRun.pending = s.pending := by unfold State.flushRun; split <;> rfl
@[simp] theorem State.flushRun_freeIdx (s : State) : s.flushRun.freeIdx = s.freeIdx := by unfold State.flushRun; split <;> rfl

@[simp] theorem State.codePixel_prev (s : State) (p : Pixel) : (s.codePixel p).prev = s.prev := by unfold State.codePixel; split <;> rfl
@[simp] theorem State.codePixel_run (s : State) (p : Pixel) : (s.codePixel p).run = s.run := by unfold State.codePixel; split <;> rfl
@[simp] theorem State.codePixel_width (s : State) (p : Pixel) : (s.codePixel p).width = s.width := by unfold State.codePixel; split <;> rfl
@[simp] theorem State.codePixel_height (s : State) (p : Pixel) : (s.codePixel p).height = s.height := by unfold State.codePixel; split <;> rfl
@[simp] theorem State.codePixel_channels (s : State) (p : Pixel) : (s.codePixel p).channels = s.channels := by unfold State.codePixel; split <;> rfl
@[simp] theorem State.codePixel_colorspace (s : State) (p : Pixel) : (s.codePixel p).colorspace = s.colorspace := by unfold State.codePixel; split <;> rfl
@[simp] theorem State.codePixel_npix (s : State) (p : Pixel) : (s.codePixel p).npix = s.npix := by unfold State.codePixel; split <;> rfl
@[simp] theorem State.codePixel_pxi (s : State) (p : Pixel) : (s.codePixel p).pxi = s.pxi := by unfold State.codePixel; split <;> rfl
@[simp] theorem State.codePixel_ipos (s : State) (p : Pixel) : (s.codePixel p).ipos = s.ipos := by unfold State.codePixel; split <;> rfl
@[simp] theorem State.codePixel_mode (s : State) (p : Pixel) : (s.codePixel p).mode = s.mode := by unfold State.codePixel; split <;> rfl
@[simp] theorem State.codePixel_phase (s : State) (p : Pixel) : (s.codePixel p).phase = s.phase := by unfold State.codePixel; split <;> rfl
@[simp] theorem State.codePixel_success (s : State) (p : Pixel) : (s.codePixel p).success = s.success := by unfold State.codePixel; split <;> rfl
@[simp] theorem State.codePixel_cause (s : State) (p : Pixel) : (s.codePixel p).cause = s.cause := by unfold State.codePixel; split <;> rfl
@[simp] theorem State.codePixel_failPos (s : State) (p : Pixel) : (s.codePixel p).failPos = s.failPos := by unfold State.codePixel; split <;> rfl
@[simp] theorem State.codePixel_input (s : State) (p : Pixel) : (s.codePixel p).input = s.input := by unfold State.codePixel; split <;> rfl
@[simp] theorem State.codePixel_pending (s : State) (p : Pixel) : (s.codePixel p).pending = s.pending := by unfold State.codePixel; split <;> rfl
@[simp] theorem State.codePixel_freeIdx (s : State) (p : Pixel) : (s.codePixel p).freeIdx = s.freeIdx := by unfold State.codePixel; split <;> rfl

@[simp] theorem State.selectOpcode_prev (s : State) (p : Pixel) : (s.selectOpcode p).prev = s.prev := by unfold State.selectOpcode; split <;> simp
@[simp] theorem State.selectOpcode_width (s : State) (p : Pixel) : (s.selectOpcode p).width = s.width := by unfold State.selectOpcode; split <;> simp
@[simp] theorem State.selectOpcode_height (s : State) (p : Pixel) : (s.selectOpcode p).height = s.height := by unfold State.selectOpcode; split <;> simp
@[simp] theorem State.selectOpcode_channels (s : State) (p : Pixel) : (s.selectOpcode p).channels = s.channels := by unfold State.selectOpcode; split <;> simp
@[simp] theorem State.selectOpcode_colorspace (s : State) (p : Pixel) : (s.selectOpcode p).colorspace = s.colorspace := by unfold State.selectOpcode; split <;> simp
@[simp] theorem State.selectOpcode_npix (s : State) (p : Pixel) : (s.selectOpcode p).npix = s.npix := by unfold State.selectOpcode; split <;> simp
@[simp] theorem State.selectOpcode_pxi (s : State) (p : Pixel) : (s.selectOpcode p).pxi = s.pxi := by unfold State.selectOpcode; split <;> simp
@[simp] theorem State.selectOpcode_ipos (s : State) (p : Pixel) : (s.selectOpcode p).ipos = s.ipos := by unfold State.selectOpcode; split <;> simp
@[simp] theorem State.selectOpcode_mode (s : State) (p : Pixel) : (s.selectOpcode p).mode = s.mode := by unfold State.selectOpcode; split <;> simp
@[simp] theorem State.selectOpcode_phase (s : State) (p : Pixel) : (s.selectOpcode p).phase = s.phase := by unfold State.selectOpcode; split <;> simp
@[simp] theorem State.selectOpcode_success (s : State) (p : Pixel) : (s.selectOpcode p).success = s.success := by unfold State.selectOpcode; split <;> simp
@[simp] theorem State.selectOpcode_cause (s : State) (p : Pixel) : (s.selectOpcode p).cause = s.cause := by unfold State.selectOpcode; split <;> simp
@[simp] theorem State.selectOpcode_failPos (s : State) (p : Pixel) : (s.selectOpcode p).failPos = s.failPos := by unfold State.selectOpcode; split <;> simp
@[simp] theorem State.selectOpcode_input (s : State) (p : Pixel) : (s.selectOpcode p).input = s.input := by unfold State.selectOpcode; split <;> simp
@[simp] theorem State.selectOpcode_pending (s : State) (p : Pixel) : (s.selectOpcode p).pending = s.pending := by unfold State.selectOpcode; split <;> simp
@[simp] theorem State.selectOpcode_freeIdx (s : State) (p : Pixel) : (s.selectOpcode p).freeIdx = s.freeIdx := by unfold State.selectOpcode; split <;> simp

@[simp] theorem State.encodePixel_width (s : State) (p : Pixel) : (s.encodePixel p).width = s.width := by simp [State.encodePixel]
@[simp] theorem State.encodePixel_height (s : State) (p : Pixel) : (s.encodePixel p).height = s.height := by simp [State.encodePixel]
@[simp] theorem State.encodePixel_channels (s : State) (p : Pixel) : (s.encodePixel p).channels = s.channels := by simp [State.encodePixel]
@[simp] theorem State.encodePixel_colorspace (s : State) (p : Pixel) : (s.encodePixel p).colorspace = s.colorspace := by simp [State.encodePixel]
@[simp] theorem State.encodePixel_npix (s : State) (p : Pixel) : (s.encodePixel p).npix = s.npix := by simp [State.encodePixel]
@[simp] theorem State.encodePixel_ipos (s : State) (p : Pixel) : (s.encodePixel p).ipos = s.ipos := by simp [State.encodePixel]
@[simp] theorem State.encodePixel_mode (s : State) (p : Pixel) : (s.encodePixel p).mode = s.mode := by simp [State.encodePixel]
@[simp] theorem State.encodePixel_success (s : State) (p : Pixel) : (s.encodePixel p).success = s.success := by simp [State.encodePixel]
@[simp] theorem State.encodePixel_cause (s : State) (p : Pixel) : (s.encodePixel p).cause = s.cause := by simp [State.encodePixel]
@[simp] theorem State.encodePixel_failPos (s : State) (p : Pixel) : (s.encodePixel p).failPos = s.failPos := by simp [State.encodePixel]
@[simp] theorem State.encodePixel_input (s : State) (p : Pixel) : (s.encodePixel p).input = s.input := by simp [State.encodePixel]
@[simp] theorem State.encodePixel_pending (s : State) (p : Pixel) : (s.encodePixel p).pending = s.pending := by simp [State.encodePixel]
@[simp] theorem State.encodePixel_freeIdx (s : State) (p : Pixel) : (s.encodePixel p).freeIdx = s.freeIdx := by simp [State.encodePixel]
@[simp] theorem State.encodePixel_prev (s : State) (p : Pixel) : (s.encodePixel p).prev = p := by simp [State.encodePixel]
@[simp] theorem State.encodePixel_pxi (s : State) (p : Pixel) : (s.encodePixel p).pxi = s.pxi + 1 := by simp [State.encodePixel]

@[simp] theorem State.continueRun_prev (s : State) : s.continueRun.prev = s.prev := by simp [State.continueRun]
@[simp] theorem State.continueRun_hist (s : State) : s.continueRun.hist = s.hist := by simp [State.continueRun]
@[simp] theorem State.continueRun_width (s : State) : s.continueRun.width = s.width := by simp [State.continueRun]
@[simp] theorem State.continueRun_height (s : State) : s.continueRun.height = s.height := by simp [State.continueRun]
@[simp] theorem State.continueRun_channels (s : State) : s.continueRun.channels = s.channels := by simp [State.continueRun]
@[simp] theorem State.continueRun_colorspace (s : State) : s.continueRun.colorspace = s.colorspace := by simp [State.continueRun]
@[simp] theorem State.continueRun_npix (s : State) : s.continueRun.npix = s.npix := by simp [State.continueRun]
@[simp] theorem State.continueRun_ipos (s : State) : s.continueRun.ipos = s.ipos := by simp [State.continueRun]
@[simp] theorem State.continueRun_mode (s : State) : s.continueRun.mode = s.mode := by simp [State.continueRun]
@[simp] theorem State.continueRun_success (s : State) : s.continueRun.success = s.success := by simp [State.continueRun]
@[simp] theorem State.continueRun_cause (s : State) : s.continueRun.cause = s.cause := by simp [State.continueRun]
@[simp] theorem State.continueRun_failPos (s : State) : s.continueRun.failPos = s.failPos := by simp [State.continueRun]
@[simp] theorem State.continueRun_input (s : State) : s.continueRun.input = s.input := by simp [State.continueRun]
@[simp] theorem State.continueRun_pending (s : State) : s.continueRun.pending = s.pending := by simp [State.continueRun]
@[simp] theorem State.continueRun_freeIdx (s : State) : s.continueRun.freeIdx = s.freeIdx := by simp [State.continueRun]
@[simp] theorem State.continueRun_run (s : State) : s.continueRun.run = s.run - 1 := by simp [State.continueRun]
@[simp] theorem State.continueRun_pxi (s : State) : s.continueRun.pxi = s.pxi + 1 := by simp [State.continueRun]

@[simp] theorem State.enterPixels_prev (s : State) (w h : BitVec 32) : (s.enterPixels w h).prev = s.prev := by simp [State.enterPixels]
@[simp] theorem State.enterPixels_hist (s : State) (w h : BitVec 32) : (s.enterPixels w h).hist = s.hist := by simp [State.enterPixels]
@[simp] theorem State.enterPixels_run (s : State) (w h : BitVec 32) : (s.enterPixels w h).run = s.run := by simp [State.enterPixels]
@[simp] theorem State.enterPixels_width (s : State) (w h : BitVec 32) : (s.enterPixels w h).width = s.width := by simp [State.enterPixels]
@[simp] theorem State.enterPixels_height (s : State) (w h : BitVec 32) : (s.enterPixels w h).height = s.height := by simp [State.enterPixels]
@[simp] theorem State.enterPixels_channels (s : State) (w h : BitVec 32) : (s.enterPixels w h).channels = s.channels := by simp [State.enterPixels]
@[simp] theorem State.enterPixels_colorspace (s : State) (w h : BitVec 32) : (s.enterPixels w h).colorspace = s.colorspace := by simp [State.enterPixels]
@[simp] theorem State.enterPixels_pxi (s : State) (w h : BitVec 32) : (s.enterPixels w h).pxi = s.pxi := by simp [State.enterPixels]
@[simp] theorem State.enterPixels_ipos (s : State) (w h : BitVec 32) : (s.enterPixels w h).ipos = s.ipos := by simp [State.enterPixels]
@[simp] theorem State.enterPixels_opos (s : State) (w h : BitVec 32) : (s.enterPixels w h).opos = s.opos := by simp [State.enterPixels]
@[simp] theorem State.enterPixels_mode (s : State) (w h : BitVec 32) : (s.enterPixels w h).mode = s.mode := by simp [State.enterPixels]
@[simp] theorem State.enterPixels_success (s : State) (w h : BitVec 32) : (s.enterPixels w h).success = s.success := by simp [State.enterPixels]
@[simp] theorem State.enterPixels_cause (s : State) (w h : BitVec 32) : (s.enterPixels w h).cause = s.cause := by simp [State.enterPixels]
@[simp] theorem State.enterPixels_failPos (s : State) (w h : BitVec 32) : (s.enterPixels w h).failPos = s.failPos := by simp [State.enterPixels]
@[simp] theorem State.enterPixels_input (s : State) (w h : BitVec 32) : (s.enterPixels w h).input = s.input := by simp [State.enterPixels]
@[simp] theorem State.enterPixels_output (s : State) (w h : BitVec 32) : (s.enterPixels w h).output = s.output := by simp [State.enterPixels]
@[simp] theorem State.enterPixels_pending (s : State) (w h : BitVec 32) : (s.enterPixels w h).pending = s.pending := by simp [State.enterPixels]
@[simp] theorem State.enterPixels_freeIdx (s : State) (w h : BitVec 32) : (s.enterPixels w h).freeIdx = s.freeIdx := by simp [State.enterPixels]
@[simp] theorem State.enterPixels_npix (s : State) (w h : BitVec 32) : (s.enterPixels w h).npix = pixelCount w h := by simp [State.enterPixels]

end Sys2Proof.Machine
end

