-- ==== Sys2Proof/Laws/Ops.lean ====
section
/-! SUPPORT. What each shared operation does, said once: history reads after stores, the pixel output, the loop test, the end of
a step, the encoder's cascade by cases, the failures, and `exec` in each mode. -/

namespace Sys2Proof.Machine

/-! History. -/

theorem State.lookup_of_hist {s t : State} (h : t.hist = s.hist) (i : BitVec 6) : t.lookup i = s.lookup i := by
  simp [State.lookup, h]

/-- A read after a store: the stored pixel in that slot, every other slot as it was (R92). -/
theorem State.lookup_store (s : State) (i j : BitVec 6) (p : Pixel) :
    (s.store i p).lookup j = if j = i then p else s.lookup j := by
  simp [State.lookup, Vector.getElem_set, BitVec.toNat_inj, eq_comm]

theorem State.lookup_remember (s : State) (j : BitVec 6) (p : Pixel) :
    (s.remember p).lookup j = if j = slotOf p then p else s.lookup j := s.lookup_store _ _ _

/-- After the command-start initialisation every slot is (0,0,0,0) (R25). -/
theorem State.lookup_initCodec (s : State) (i : BitVec 6) : s.initCodec.lookup i = Config.emptySlot := by
  simp [State.lookup]

theorem slotOf_emptySlot : slotOf Config.emptySlot = 0 := by decide

theorem slotOf_initialPrev : slotOf Config.initialPrev = 53 := by decide

/-! Output. -/

/-- The pixel output appends the raw bytes of PREV (R129). -/
theorem State.emitPixel_output (s : State) : s.emitPixel.output = s.output ++ rawBytes s.channels s.prev := by
  unfold State.emitPixel rawBytes; split <;> rfl

theorem State.emitPixel_opos (s : State) :
    s.emitPixel.opos = s.opos + (rawBytes s.channels s.prev).length := by
  unfold State.emitPixel rawBytes; split <;> rfl

theorem rawBytes_length (c : Byte) (p : Pixel) : (rawBytes c p).length = bytesPerPixel c := by
  unfold rawBytes bytesPerPixel; split <;> rfl

/-! The loop. -/

theorem State.loopTest_phase (s : State) : s.loopTest.phase = if s.pxi < s.npix then s.phase else .trl := by
  unfold State.loopTest; split <;> rfl

theorem State.endPixel_phase (s : State) : s.endPixel.phase = if s.pxi + 1 < s.npix then s.phase else .trl :=
  (s.setPxi (s.pxi + 1)).loopTest_phase

theorem State.enterPixels_phase (s : State) (w h : BitVec 32) :
    (s.enterPixels w h).phase = if s.pxi < pixelCount w h then .pix else .trl :=
  ((s.setNpix (pixelCount w h)).setPhase .pix).loopTest_phase

/-- NPIX is the exact product: 64 bits hold it (R18). -/
theorem pixelCount_toNat (w h : BitVec 32) : (pixelCount w h).toNat = w.toNat * h.toNat := by
  have hw : w.toNat ≤ 2 ^ 32 - 1 := by have := w.isLt; omega
  have hh : h.toNat ≤ 2 ^ 32 - 1 := by have := h.isLt; omega
  have := Nat.mul_le_mul hw hh
  simp only [pixelCount, BitVec.toNat_ofNat]
  exact Nat.mod_eq_of_lt (by omega)

/-- The end of a decoder chunk step: PREV's slot holds PREV, PREV's bytes are out, the pixel is counted (R119). -/
theorem State.finishChunk_lookup (s : State) (j : BitVec 6) :
    s.finishChunk.lookup j = if j = slotOf s.prev then s.prev else s.lookup j := by
  rw [← State.lookup_remember]; exact State.lookup_of_hist (by simp [State.finishChunk]) j

theorem State.finishChunk_output (s : State) : s.finishChunk.output = s.output ++ rawBytes s.channels s.prev := by
  simp [State.finishChunk, State.emitPixel_output]

theorem State.finishChunk_opos (s : State) : s.finishChunk.opos = s.opos + (rawBytes s.channels s.prev).length := by
  simp [State.finishChunk, State.emitPixel_opos]

theorem State.finishChunk_phase (s : State) :
    s.finishChunk.phase = if s.pxi + 1 < s.npix then s.phase else .trl := by
  simp [State.finishChunk, State.endPixel_phase]

theorem State.continueRun_output (s : State) : s.continueRun.output = s.output ++ rawBytes s.channels s.prev := by
  simp [State.continueRun, State.emitPixel_output]

theorem State.continueRun_opos (s : State) : s.continueRun.opos = s.opos + (rawBytes s.channels s.prev).length := by
  simp [State.continueRun, State.emitPixel_opos]

theorem State.continueRun_phase (s : State) :
    s.continueRun.phase = if s.pxi + 1 < s.npix then s.phase else .trl := by
  simp [State.continueRun, State.endPixel_phase]

/-! The encoder. -/

theorem State.encodePixel_phase (s : State) (p : Pixel) :
    (s.encodePixel p).phase = if s.pxi + 1 < s.npix then s.phase else .trl := by
  simp [State.encodePixel, State.endPixel_phase]

/-- Every path of the cascade (R101): a run counted, a run counted and flushed, a hit, a miss; the last two after the flush of
a pending run. -/
theorem State.selectOpcode_cases (s : State) (p : Pixel) :
    (p = s.prev ∧ ¬ ((s.run + 1).toNat = 62 ∨ s.pxi.toNat + 1 = s.npix.toNat) ∧
      s.selectOpcode p = s.setRun (s.run + 1)) ∨
    (p = s.prev ∧ ((s.run + 1).toNat = 62 ∨ s.pxi.toNat + 1 = s.npix.toNat) ∧
      s.selectOpcode p = (s.setRun (s.run + 1)).emitRun) ∨
    (p ≠ s.prev ∧ s.lookup (slotOf p) = p ∧ s.selectOpcode p = s.flushRun.emit (.index (slotOf p))) ∨
    (p ≠ s.prev ∧ s.lookup (slotOf p) ≠ p ∧
      s.selectOpcode p = (s.flushRun.remember p).emit (codeMiss p s.prev)) := by
  by_cases hp : p = s.prev
  · have hs : s.selectOpcode p = s.countRun := if_pos hp
    by_cases hf : (s.run + 1).toNat = 62 ∨ s.pxi.toNat + 1 = s.npix.toNat
    · exact .inr (.inl ⟨hp, hf, hs.trans (if_pos hf)⟩)
    · exact .inl ⟨hp, hf, hs.trans (if_neg hf)⟩
  · have hl := State.lookup_of_hist s.flushRun_hist (slotOf p)
    simp only [State.selectOpcode, State.codePixel, if_neg hp, hl, State.flushRun_prev]
    by_cases hh : s.lookup (slotOf p) = p
    · exact .inr (.inr (.inl ⟨hp, hh, if_pos hh⟩))
    · exact .inr (.inr (.inr ⟨hp, hh, if_neg hh⟩))

/-- What is emitted on a miss (R106 to R109). -/
theorem codeMiss_cases (p q : Pixel) :
    (p.a ≠ q.a ∧ codeMiss p q = .rgba p.r p.g p.b p.a) ∨
    (p.a = q.a ∧ diffFits (delta p.r q.r) (delta p.g q.g) (delta p.b q.b) = true ∧
      codeMiss p q = .diff (delta p.r q.r) (delta p.g q.g) (delta p.b q.b)) ∨
    (p.a = q.a ∧ diffFits (delta p.r q.r) (delta p.g q.g) (delta p.b q.b) = false ∧
      lumaFits (delta p.r q.r) (delta p.g q.g) (delta p.b q.b) = true ∧
      codeMiss p q = .luma (delta p.g q.g) (delta p.r q.r - delta p.g q.g) (delta p.b q.b - delta p.g q.g)) ∨
    (p.a = q.a ∧ diffFits (delta p.r q.r) (delta p.g q.g) (delta p.b q.b) = false ∧
      lumaFits (delta p.r q.r) (delta p.g q.g) (delta p.b q.b) = false ∧ codeMiss p q = .rgb p.r p.g p.b) := by
  by_cases ha : p.a = q.a
  · cases hd : diffFits (delta p.r q.r) (delta p.g q.g) (delta p.b q.b) <;>
      cases hl : lumaFits (delta p.r q.r) (delta p.g q.g) (delta p.b q.b) <;>
      simp [codeMiss, codeDelta, ha, hd, hl]
  · simp [codeMiss, ha]

theorem run_pos {v : BitVec 6} (h : v ≠ 0) : 0 < v.toNat := by
  rcases Nat.eq_zero_or_pos v.toNat with h0 | h0
  · exact absurd (BitVec.eq_of_toNat_eq h0) h
  · exact h0

/-- The flush of guard 2: a pending run is emitted, an idle counter emits nothing (R103). -/
theorem State.flushRun_cases (s : State) :
    (s.run = 0 ∧ s.flushRun = s ∧ flushBytes s.run = []) ∨
    (s.run ≠ 0 ∧ s.flushRun = s.emitRun ∧ flushBytes s.run = encode (.run s.run.toNat)) := by
  by_cases h : s.run = 0
  · exact .inl ⟨h, if_neg (by rw [h]; decide), if_pos h⟩
  · exact .inr ⟨h, if_pos (run_pos h), if_neg h⟩

theorem State.flushRun_output (s : State) : s.flushRun.output = s.output ++ flushBytes s.run := by
  rcases s.flushRun_cases with ⟨-, h, hb⟩ | ⟨-, h, hb⟩ <;> simp [h, hb]

theorem State.flushRun_opos (s : State) : s.flushRun.opos = s.opos + (flushBytes s.run).length := by
  rcases s.flushRun_cases with ⟨-, h, hb⟩ | ⟨-, h, hb⟩ <;> simp [h, hb, encode]

theorem State.flushRun_run (s : State) : s.flushRun.run = 0 := by
  rcases s.flushRun_cases with ⟨h0, h, -⟩ | ⟨-, h, -⟩
  · rw [h, h0]
  · rw [h]; rfl

/-! Failures. -/

/-- Every failure is one of the three (R140). -/
theorem raise_cases (r : Reject) (s : State) :
    raise r s = ((s.consume 4).forgetParams).finish .badMagic .done ∨ raise r s = (s.consume 8).finish .badTrailer .done ∨
    ∃ n, r = .short n ∧ raise r s =
      (((s.consume n).setFailPos (s.ipos + n)).forgetParams.forgetCodec).finish .streamExhausted .fault := by
  cases r with
  | short n => exact .inr (.inr ⟨n, rfl, rfl⟩)
  | badMagic => exact .inl rfl
  | badTrailer => exact .inr (.inl rfl)

/-! Meanings. -/

/-- The pixel a chunk resolves to in Decode (R122 to R127). -/
def chunkPixel (s : State) : Instr → Pixel
  | .rgb r g b => ⟨r, g, b, s.prev.a⟩
  | .rgba r g b a => ⟨r, g, b, a⟩
  | .index i => s.lookup i
  | .diff dr dg db => applyDeltas s.prev dr dg db
  | .luma dg drDg dbDg => applyDeltas s.prev (drDg + dg) dg (dbDg + dg)
  | .run _ => s.prev
  | .header _ _ _ _ => s.prev
  | .trailer => s.prev
  | .pixel3 _ _ _ => s.prev
  | .pixel4 _ _ _ _ => s.prev

/-- The run count a chunk leaves in Decode (R127). -/
def chunkRun (s : State) : Instr → BitVec 6
  | .run n => BitVec.ofNat 6 (n - 1)
  | .rgb _ _ _ => s.run
  | .rgba _ _ _ _ => s.run
  | .index _ => s.run
  | .diff _ _ _ => s.run
  | .luma _ _ _ => s.run
  | .header _ _ _ _ => s.run
  | .trailer => s.run
  | .pixel3 _ _ _ => s.run
  | .pixel4 _ _ _ _ => s.run

/-- A chunk in Decode: its bytes consumed, PREV and RUN as its arm leaves them, then the common end. -/
theorem exec_chunk {i : Instr} {s : State} (hi : i.isChunk = true) (hm : s.mode = .decode) :
    exec i s = .next ((((s.consume i.length).setPrev (chunkPixel s i)).setRun (chunkRun s i)).finishChunk) := by
  cases i <;>
    first
    | (simp only [exec, execRgb, execRgba, execIndex, execDiff, execLuma, execRun, hm]; rfl)
    | simp [Instr.isChunk] at hi

/-- A raw pixel in Encode: its bytes consumed, then the encoder pixel step. -/
theorem exec_raw {i : Instr} {s : State} {p : Pixel} {n : Nat} (hi : RawPixelOf i p n) (hm : s.mode = .encode) :
    exec i s = .next ((s.consume n).encodePixel p) := by
  rcases hi with ⟨rfl, rfl⟩ | ⟨rfl, ha, rfl⟩
  · simp only [exec, execPixel4, hm]
  · simp only [exec, execPixel3, hm, Config.opaqueAlpha, ← ha]

/-- Every instruction completes in every state. -/
theorem exec_completes (i : Instr) (s : State) : ∃ t, exec i s = .next t := by
  cases i <;> cases hm : s.mode <;>
    simp [exec, execRgb, execRgba, execIndex, execDiff, execLuma, execRun, execHeader, execTrailer, execPixel3,
      execPixel4, hm]

end Sys2Proof.Machine
end

