-- ==== Sys2Proof/Laws/PerInstr.lean ====
section
/-! SUPPORT. Statements about every instruction as syntax, one lemma for each constructor. -/

/-- The encoding of an instruction has the length the table gives its row (R50, R53). -/
def Sys2Proof.Laws.EncodeLength.Statement (i : Sys2Proof.Instr) : Prop :=
  (Sys2Proof.encode i).length = i.length

namespace Sys2Proof.Laws.EncodeLength

theorem rgb (r g b : Byte) : Statement (.rgb r g b) := rfl

theorem rgba (r g b a : Byte) : Statement (.rgba r g b a) := rfl

theorem index (i : BitVec 6) : Statement (.index i) := rfl

theorem diff (dr dg db : Int) : Statement (.diff dr dg db) := rfl

theorem luma (dg drDg dbDg : Int) : Statement (.luma dg drDg dbDg) := rfl

theorem run (n : Nat) : Statement (.run n) := rfl

theorem header (w h : BitVec 32) (c s : Byte) : Statement (.header w h c s) := rfl

theorem trailer : Statement .trailer := rfl

theorem pixel3 (r g b : Byte) : Statement (.pixel3 r g b) := rfl

theorem pixel4 (r g b a : Byte) : Statement (.pixel4 r g b a) := rfl

end Sys2Proof.Laws.EncodeLength
end

