-- ==== Sys2Proof/Laws/Step.lean ====
section
/-! SUPPORT. What one step can do, said once: if it answers a next state, one of these happened. And what the decoder answers
at each site. -/

namespace Sys2Proof.Machine

/-! The decoder. -/

theorem bits_lt (v : Byte) (lo n : Nat) : bits v lo n < 2 ^ n := Nat.mod_lt _ (Nat.two_pow_pos n)

/-- What is read at the chunk site is a well-formed chunk (R55, R63). -/
theorem decodeChunk_ok {bs rest : List Byte} {i : Instr} (h : decode .chunk bs = .ok i rest) :
    i.isChunk = true ∧ i.wf = true := by
  simp only [decode] at h
  cases bs with
  | nil => simp [decodeChunk] at h
  | cons t tl =>
    have b62 := bits_lt t 6 2
    have b06 := bits_lt t 0 6
    have b42 := bits_lt t 4 2
    have b22 := bits_lt t 2 2
    have b02 := bits_lt t 0 2
    simp only [decodeChunk] at h
    split at h
    · split at h <;> simp at h
      obtain ⟨rfl, -⟩ := h; simp [Instr.isChunk, Instr.wf]
    split at h
    · split at h <;> simp at h
      obtain ⟨rfl, -⟩ := h; simp [Instr.isChunk, Instr.wf]
    split at h
    · simp at h; obtain ⟨rfl, -⟩ := h; simp [Instr.isChunk, Instr.wf]
    split at h
    · simp at h; obtain ⟨rfl, -⟩ := h; simp [Instr.isChunk, Instr.wf]; omega
    split at h
    · split at h <;> simp at h
      rename_i n _
      have n44 := bits_lt n 4 4
      have n04 := bits_lt n 0 4
      obtain ⟨rfl, -⟩ := h; simp [Instr.isChunk, Instr.wf]; omega
    · simp at h
      obtain ⟨rfl, -⟩ := h
      have hb : bits t 0 6 ≤ 61 := by
        have hlt := t.isLt
        have h1 : t.toNat ≠ 0xfe := fun hc => by
          rename_i h1 _ _ _ _; exact h1 (BitVec.eq_of_toNat_eq hc)
        have h2 : t.toNat ≠ 0xff := fun hc => by
          rename_i h2 _ _ _; exact h2 (BitVec.eq_of_toNat_eq hc)
        rename_i _ _ h00 h01 h10
        simp only [bits] at *
        omega
      simp [Instr.isChunk, Instr.wf]; omega

/-- What is read at the site of the raw pixels delivers a pixel (R100). -/
theorem decodeRaw_ok {c : Byte} {s : State} {bs rest : List Byte} {i : Instr} (hc : s.channels = c)
    (h : decode s.rawSite bs = .ok i rest) : ∃ p, RawPixelOf i p (bytesPerPixel c) ∧ (c ≠ 4 → p.a = 255) := by
  subst hc
  unfold State.rawSite at h
  by_cases h4 : s.channels = 4
  · rw [if_pos h4] at h
    simp only [decode, decodeRaw4] at h
    split at h <;> simp at h
    obtain ⟨rfl, -⟩ := h
    rename_i r g b a _
    exact ⟨⟨r, g, b, a⟩, .inl ⟨rfl, if_pos h4⟩, fun h => absurd h4 h⟩
  · rw [if_neg h4] at h
    simp only [decode, decodeRaw3] at h
    split at h <;> simp at h
    obtain ⟨rfl, -⟩ := h
    rename_i r g b _
    exact ⟨⟨r, g, b, 255⟩, .inr ⟨rfl, rfl, if_neg h4⟩, fun _ => rfl⟩

theorem decodeHeader_ok {bs rest : List Byte} {i : Instr} (h : decode .header bs = .ok i rest) :
    ∃ w ht c k, i = .header w ht c k := by
  simp only [decode, decodeHeader] at h
  split at h
  · split at h
    · simp only [decodeFields] at h
      split at h <;> simp at h
      exact ⟨_, _, _, _, h.1.symm⟩
    · simp at h
  · simp at h

theorem decodeTrailer_ok {bs rest : List Byte} {i : Instr} (h : decode .trailer bs = .ok i rest) : i = .trailer := by
  simp only [decode, decodeTrailer] at h
  split at h
  · simp at h
  · split at h
    · simp at h; exact h.1.symm
    · simp at h

/-! The step. -/

/-- The record the sequencer reads in this state, if it reads one (R78, R82, R100, R121). -/
def State.Reads (s : State) : Site → Prop
  | .header => s.phase = .hdr ∧ s.mode = .decode
  | .chunk => s.atChunk
  | .trailer => s.phase = .trl ∧ s.mode = .decode
  | .raw3 => s.atRaw ∧ s.channels ≠ 4
  | .raw4 => s.atRaw ∧ s.channels = 4

/-- One step, case by case. -/
inductive StepsTo (s : State) : State → Prop
  | waits (h : s.phase = .idle ∨ s.phase = .done) (hp : s.pending = []) : StepsTo s s
  | host (h : s.ended) (m : HostMove) (q : List HostMove) (hp : s.pending = m :: q) :
    StepsTo s ((s.setPending q).hostMove m)
  | fails (site : Site) (h : s.Reads site) (r : Reject) (hd : decode site s.ahead = .reject r) : StepsTo s (raise r s)
  | headerWritten (h : s.phase = .hdr) (hm : s.mode = .encode) :
    StepsTo s ((s.emit (.header s.width s.height s.channels s.colorspace)).enterPixels s.width s.height)
  | headerRead (h : s.phase = .hdr) (hm : s.mode = .decode) (w ht : BitVec 32) (c k : Byte) (rest : List Byte)
    (hd : decode .header s.ahead = .ok (.header w ht c k) rest) :
    StepsTo s (((s.consume 14).setParams w ht c k).enterPixels w ht)
  | chunk (h : s.atChunk) (i : Instr) (rest : List Byte) (hd : decode .chunk s.ahead = .ok i rest)
    (hi : i.isChunk = true) (hw : i.wf = true) :
    StepsTo s ((((s.consume i.length).setPrev (chunkPixel s i)).setRun (chunkRun s i)).finishChunk)
  | continues (h : s.atContinuation) : StepsTo s s.continueRun
  | raw (h : s.atRaw) (i : Instr) (rest : List Byte) (hd : decode s.rawSite s.ahead = .ok i rest) (p : Pixel)
    (hi : RawPixelOf i p (bytesPerPixel s.channels)) (ha : s.channels ≠ 4 → p.a = 255) :
    StepsTo s ((s.consume (bytesPerPixel s.channels)).encodePixel p)
  | leaves (h : s.phase = .pix) (hl : ¬ s.pxi < s.npix) : StepsTo s (s.setPhase .trl)
  | trailerWritten (h : s.phase = .trl) (hm : s.mode = .encode) : StepsTo s ((s.emit .trailer).finish .none .done)
  | trailerRead (h : s.phase = .trl) (hm : s.mode = .decode) (rest : List Byte)
    (hd : decode .trailer s.ahead = .ok .trailer rest) : StepsTo s ((s.consume 8).finish .none .done)

theorem step_fetch_ok {s : State} {site : Site} {i : Instr} {rest : List Byte} (hm : nextMove s = s.fetch site)
    (hd : decode site s.ahead = .ok i rest) : step s = exec i s := by
  simp [step, hm, State.fetch, hd]

theorem step_fetch_reject {s : State} {site : Site} {r : Reject} (hm : nextMove s = s.fetch site)
    (hd : decode site s.ahead = .reject r) : step s = .next (raise r s) := by
  simp [step, hm, State.fetch, hd]

/-- Which site a reading state fetches from. -/
theorem nextMove_reads {s : State} {site : Site} (h : s.Reads site) : nextMove s = s.fetch site := by
  cases site
  · simp [nextMove, h.1, h.2]
  · obtain ⟨h1, h2, h3, h4⟩ := h
    simp [nextMove, State.pixelMove, h1, h2, h3, h4]
  · simp [nextMove, h.1, h.2]
  · obtain ⟨⟨h1, h2, h3⟩, h4⟩ := h
    have h4' : ¬ s.channels = 4#8 := h4
    simp [nextMove, State.pixelMove, State.rawSite, h1, h2, h3, h4']
  · obtain ⟨⟨h1, h2, h3⟩, h4⟩ := h
    simp [nextMove, State.pixelMove, State.rawSite, h1, h2, h3, h4]

theorem State.reads_rawSite {s : State} (h : s.atRaw) : s.Reads s.rawSite := by
  by_cases hc : s.channels = 4
  · simp only [State.rawSite, if_pos hc]; exact ⟨h, hc⟩
  · simp only [State.rawSite, if_neg hc]; exact ⟨h, hc⟩

/-- The inversion of `step`: a next state is reached in one of these ways. -/
theorem step_cases {s t : State} (h : step s = .next t) : StepsTo s t := by
  have turn : ∀ u, s.ended → nextMove s = s.hostTurn u →
      (s.pending = [] → step s = (match u with | .run i => exec i s | .now v => .next v | .stop f => .fault f) →
        StepsTo s t) → StepsTo s t := by
    intro u he hn hu
    cases hp : s.pending with
    | nil => exact hu hp (by cases u <;> simp only [step, hn, State.hostTurn, hp])
    | cons m q =>
      simp [step, hn, State.hostTurn, hp] at h
      subst h; exact .host he m q hp
  have fetch : ∀ site, s.Reads site → (∀ i rest, decode site s.ahead = .ok i rest → exec i s = .next t → StepsTo s t) →
      StepsTo s t := by
    intro site hr hok
    cases hd : decode site s.ahead with
    | ok i rest => exact hok i rest hd (by rw [← step_fetch_ok (nextMove_reads hr) hd]; exact h)
    | reject r =>
      rw [step_fetch_reject (nextMove_reads hr) hd] at h
      cases h; exact .fails site hr r hd
  cases hph : s.phase with
  | idle =>
    refine turn (.now s) (.inl hph) (by simp [nextMove, hph]) fun hp hs => ?_
    rw [hs] at h; cases h; exact .waits (.inl hph) hp
  | done =>
    refine turn (.now s) (.inr (.inl hph)) (by simp [nextMove, hph]) fun hp hs => ?_
    rw [hs] at h; cases h; exact .waits (.inr hph) hp
  | fault =>
    refine turn (.stop (.streamExhausted s.failPos)) (.inr (.inr hph)) (by simp [nextMove, hph]) fun hp hs => ?_
    rw [hs] at h; cases h
  | hdr =>
    cases hm : s.mode with
    | encode =>
      simp [step, nextMove, hph, hm, exec, execHeader] at h
      subst h; exact .headerWritten hph hm
    | decode =>
      refine fetch .header ⟨hph, hm⟩ fun i rest hd he => ?_
      obtain ⟨w, ht, c, k, rfl⟩ := decodeHeader_ok hd
      simp [exec, execHeader, hm] at he
      subst he; exact .headerRead hph hm w ht c k rest hd
  | pix =>
    by_cases hl : s.pxi < s.npix
    · cases hm : s.mode with
      | encode =>
        refine fetch s.rawSite (s.reads_rawSite ⟨hph, hm, hl⟩) fun i rest hd he => ?_
        obtain ⟨p, hi, ha⟩ := decodeRaw_ok rfl hd
        rw [exec_raw hi hm] at he
        cases he; exact .raw ⟨hph, hm, hl⟩ i rest hd p hi ha
      | decode =>
        by_cases hr : s.run = 0
        · refine fetch .chunk ⟨hph, hm, hl, hr⟩ fun i rest hd he => ?_
          obtain ⟨hi, hw⟩ := decodeChunk_ok hd
          rw [exec_chunk hi hm] at he
          cases he; exact .chunk ⟨hph, hm, hl, hr⟩ i rest hd hi hw
        · simp [step, nextMove, State.pixelMove, hph, hm, hl, run_pos hr] at h
          subst h; exact .continues ⟨hph, hm, hl, hr⟩
    · simp [step, nextMove, hph, hl] at h
      subst h; exact .leaves hph hl
  | trl =>
    cases hm : s.mode with
    | encode =>
      simp [step, nextMove, hph, hm, exec, execTrailer] at h
      subst h; exact .trailerWritten hph hm
    | decode =>
      refine fetch .trailer ⟨hph, hm⟩ fun i rest hd he => ?_
      obtain rfl := decodeTrailer_ok hd
      simp [exec, execTrailer, hm] at he
      subst he; exact .trailerRead hph hm rest hd

end Sys2Proof.Machine
end

