-- ==== Sys2Proof/Laws/Streams.lean ====
section
/-! SUPPORT. The two streams and the history: every operation on a stream keeps it well formed, what is read is there to be
read, and every store keeps a slot to its own hash. -/

namespace Sys2Proof.Machine

/-! The bytes a read takes are there (R31, R142). -/

/-- A record that was read is as long as its table row says. -/
theorem decode_ok_length {site : Site} {bs rest : List Byte} {i : Instr} (h : decode site bs = .ok i rest) :
    bs.length = i.length + rest.length := by
  cases site <;> simp only [decode] at h
  · simp only [decodeHeader] at h
    split at h
    · split at h
      · simp only [decodeFields] at h
        split at h <;> simp at h
        obtain ⟨rfl, rfl⟩ := h; simp [Instr.length]; omega
      · simp at h
    · simp at h
  · cases bs with
    | nil => simp [decodeChunk] at h
    | cons t tl =>
      simp only [decodeChunk] at h
      split at h
      · split at h <;> simp at h
        obtain ⟨rfl, rfl⟩ := h; simp [Instr.length]; omega
      split at h
      · split at h <;> simp at h
        obtain ⟨rfl, rfl⟩ := h; simp [Instr.length]; omega
      split at h
      · simp at h; obtain ⟨rfl, rfl⟩ := h; simp [Instr.length]; omega
      split at h
      · simp at h; obtain ⟨rfl, rfl⟩ := h; simp [Instr.length]; omega
      split at h
      · split at h <;> simp at h
        obtain ⟨rfl, rfl⟩ := h; simp [Instr.length]; omega
      · simp at h; obtain ⟨rfl, rfl⟩ := h; simp [Instr.length]; omega
  · simp only [decodeTrailer] at h
    split at h
    · simp at h
    · split at h
      · simp at h; obtain ⟨rfl, rfl⟩ := h; simp [Instr.length]; omega
      · simp at h
  · simp only [decodeRaw3] at h
    split at h <;> simp at h
    obtain ⟨rfl, rfl⟩ := h; simp [Instr.length]; omega
  · simp only [decodeRaw4] at h
    split at h <;> simp at h
    obtain ⟨rfl, rfl⟩ := h; simp [Instr.length]; omega

/-- How many bytes a failed read has taken (R142, R143, R145). -/
def Reject.taken : Reject → Nat
  | .short n => n
  | .badMagic => 4
  | .badTrailer => 8

/-- A failed read takes no byte that is not there. -/
theorem decode_reject_taken {site : Site} {bs : List Byte} {r : Reject} (h : decode site bs = .reject r) :
    Reject.taken r ≤ bs.length := by
  cases site <;> simp only [decode] at h
  · simp only [decodeHeader] at h
    split at h
    · split at h
      · rename_i m0 m1 m2 m3 rest _
        simp only [decodeFields] at h
        split at h <;> simp at h
        subst h
        simp only [Reject.taken, headerStop, List.length_cons]
        split_ifs <;> omega
      · simp at h; subst h; simp [Reject.taken]
    · simp at h; subst h; simp [Reject.taken]
  · cases bs with
    | nil => simp [decodeChunk] at h; subst h; simp [Reject.taken]
    | cons t tl =>
      simp only [decodeChunk] at h
      split at h
      · split at h <;> simp at h
        subst h; simp [Reject.taken]; omega
      split at h
      · split at h <;> simp at h
        subst h; simp [Reject.taken]; omega
      split at h
      · simp at h
      split at h
      · simp at h
      split at h
      · split at h <;> simp at h
        subst h; simp [Reject.taken]
      · simp at h
  · simp only [decodeTrailer] at h
    split at h
    · simp at h; subst h; simp [Reject.taken]
    · split at h
      · simp at h
      · simp at h; subst h; simp [Reject.taken]; omega
  · simp only [decodeRaw3] at h
    split at h <;> simp at h
    subst h; simp [Reject.taken]
  · simp only [decodeRaw4] at h
    split at h <;> simp at h
    subst h; simp [Reject.taken]

/-! The streams keep their form. -/

theorem State.ahead_length (s : State) : s.ahead.length = s.input.length - s.ipos := by
  simp [State.ahead]

theorem State.ahead_consume (s : State) (n : Nat) : (s.consume n).ahead = s.ahead.drop n := by
  simp [State.ahead, Nat.add_comm]

/-- A write keeps the form, always (R32). -/
theorem State.write_streamsWf {s : State} (h : s.StreamsWf) (bs : List Byte) : (s.write bs).StreamsWf :=
  ⟨h.1, by simp [h.2]⟩

/-- A read of bytes that are there keeps the form (R31). -/
theorem State.consume_streamsWf {s : State} {n : Nat} (h : s.StreamsWf) (hn : n ≤ s.ahead.length) :
    (s.consume n).StreamsWf := by
  have := s.ahead_length
  exact ⟨by have := h.1; simp; omega, h.2⟩

/-- Newly opened streams have the form (R25, R31, R32). -/
theorem State.openStreams_streamsWf (s : State) (bs : List Byte) : (s.openStreams bs).StreamsWf :=
  ⟨by simp, rfl⟩

/-! The history keeps its form. -/

/-- A store puts a pixel in the slot of its own hash (R92, R118 (d)). -/
theorem State.remember_histWf {s : State} (h : s.HistWf) (p : Pixel) : (s.remember p).HistWf := by
  intro j
  rw [State.lookup_remember]
  by_cases hj : j = slotOf p
  · exact .inr (by rw [if_pos hj, hj])
  · rw [if_neg hj]; exact h j

/-- The command start leaves the history in form (R25). -/
theorem State.initCodec_histWf (s : State) : s.initCodec.HistWf := fun i => .inl (s.lookup_initCodec i)

/-- The form depends on HIST alone. -/
theorem State.histWf_of_hist {s t : State} (h : s.HistWf) (ht : t.hist = s.hist) : t.HistWf := by
  intro i; rw [State.lookup_of_hist ht]; exact h i

end Sys2Proof.Machine
end

