-- ==== Sys2Proof/Tests/Slice0.lean ====
section
/-! SUPPORT. The model's own tests. Expected values are the vectors of spec/95_test_vectors.md (their ids E, X, P, S are
named) or hand calculation from the rule named; then one witness for every statement that has hypotheses. -/

namespace Sys2Proof.Tests

open Sys2Proof.Machine

/-! Helpers. -/

/-- The state a step leads to, if it leads to one. -/
def after (s : State) : Option State :=
  match step s with
  | .next t => some t
  | .fault _ => none
  | .refused _ => none

/-- A Decode command at that phase, with these bytes ahead. -/
def decoding (ph : Phase) (bs : List Byte) : State :=
  { State.reset with mode := .decode, phase := ph, npix := 9, channels := 4, input := bs }

/-- A Decode pixel step with that PREV. -/
def chunkAt (p : Pixel) (bs : List Byte) : State := { decoding .pix bs with prev := p }

/-- An Encode pixel step with that PREV and RUN, CHANNELS 4, the pixel's four bytes ahead; pixel 2 of 9. -/
def rawAt (q : Pixel) (run : BitVec 6) (p : Pixel) : State :=
  { State.reset with
    mode := .encode, phase := .pix, pxi := 2, npix := 9, channels := 4, prev := q, run := run,
    input := [p.r, p.g, p.b, p.a] }

/-- The same step at the last pixel. -/
def lastRawAt (q : Pixel) (run : BitVec 6) (p : Pixel) : State := { rawAt q run p with npix := 3 }

/-- What a decoder vector of file 95 lists: PREV, RUN, the slot named, OUT, IPOS. -/
def seenDecode (s : State) (k : BitVec 6) : Option (Pixel × BitVec 6 × Pixel × List Byte × Nat) :=
  (after s).map fun t => (t.prev, t.run, t.lookup k, t.output, t.ipos)

/-- What an encoder vector lists: RUN, the slot named, OUT. -/
def seenEncode (s : State) (k : BitVec 6) : Option (BitVec 6 × Pixel × List Byte) :=
  (after s).map fun t => (t.run, t.lookup k, t.output)

/-- The end of a command: SUCCESS, CAUSE, PHASE, IPOS, OUT. -/
def seenEnd (s : State) : Option (Bool × Cause × Phase × Nat × List Byte) :=
  (after s).map fun t => (t.success, t.cause, t.phase, t.ipos, t.output)

/-! Well-formedness: an ill-formed term for each check (R59, R60, R61). -/

theorem test_wf_refuses :
    (Instr.diff 2 0 0).wf = false ∧ (Instr.diff 0 (-3) 0).wf = false ∧ (Instr.diff 0 0 2).wf = false ∧
    (Instr.luma 32 0 0).wf = false ∧ (Instr.luma 0 (-9) 0).wf = false ∧ (Instr.luma 0 0 8).wf = false ∧
    (Instr.run 0).wf = false ∧ (Instr.run 63).wf = false := by decide

theorem test_wf_accepts :
    (Instr.diff (-2) (-2) (-2)).wf = true ∧ (Instr.diff 1 1 1).wf = true ∧ (Instr.luma (-32) (-8) (-8)).wf = true ∧
    (Instr.luma 31 7 7).wf = true ∧ (Instr.run 1).wf = true ∧ (Instr.run 62).wf = true := by decide

/-! Decoding: words written out bit by bit. -/

/-- The boundary bytes of 95 section 2.7. -/
theorem test_decode_boundaries :
    decode .chunk [0b00111111] = .ok (.index 63) [] ∧
    decode .chunk [0b01000000] = .ok (.diff (-2) (-2) (-2)) [] ∧
    decode .chunk [0b01111111] = .ok (.diff 1 1 1) [] ∧
    decode .chunk [0b10000000, 0b00000000] = .ok (.luma (-32) (-8) (-8)) [] ∧
    decode .chunk [0b10111111, 0b11111111] = .ok (.luma 31 7 7) [] ∧
    decode .chunk [0b11000000] = .ok (.run 1) [] ∧
    decode .chunk [0b11111101] = .ok (.run 62) [] := by decide

/-- Field order within a byte (R59, R60): `01 11 10 01` is dr 1, dg 0, db −1; `10 101100 0110 0111` is dg 12, dr_dg −2,
db_dg −1. -/
theorem test_decode_fields :
    decode .chunk [0b01111001] = .ok (.diff 1 0 (-1)) [] ∧
    decode .chunk [0b10101100, 0b01100111] = .ok (.luma 12 (-2) (-1)) [] := by decide

/-- RGB and RGBA (R56, R57), their operand bytes in channel order, the byte after them left (X5). -/
theorem test_decode_literals :
    decode .chunk [0b11111110, 0xfe, 0xff, 0xc0, 0x05] = .ok (.rgb 0xfe 0xff 0xc0) [0x05] ∧
    decode .chunk [0b11111111, 1, 2, 3, 4] = .ok (.rgba 1 2 3 4) [] := by decide

/-- The third header of 95 section 2.3. -/
theorem test_decode_header :
    decode .header [0x71, 0x6f, 0x69, 0x66, 1, 2, 3, 4, 0xff, 0xff, 0xff, 0xfe, 4, 1] =
      .ok (.header 0x01020304 0xfffffffe 4 1) [] := by decide

/-- The trailer table of 95 section 2.3. -/
theorem test_decode_trailer :
    decode .trailer [0, 0, 0, 0, 0, 0, 0, 1, 0xaa] = .ok .trailer [0xaa] ∧
    decode .trailer [0, 0, 0, 0, 0, 0, 0, 0] = .reject .badTrailer ∧
    decode .trailer [1, 0, 0, 0, 0, 0, 0, 0] = .reject .badTrailer ∧
    decode .trailer [0, 0, 0, 0, 0, 0, 0, 0x81] = .reject .badTrailer ∧
    decode .trailer [0, 0, 0, 0, 0, 0, 0] = .reject (.short 7) := by decide

/-- Raw pixels (R53). -/
theorem test_decode_raw :
    decode .raw3 [10, 20, 30, 40] = .ok (.pixel3 10 20 30) [40] ∧
    decode .raw4 [10, 20, 30, 40] = .ok (.pixel4 10 20 30 40) [] ∧
    decode .raw4 [10, 20, 30] = .reject (.short 3) := by decide

/-- "XOIF", whole and one byte short (S5, 95 section 2.9), and a header that ends inside WIDTH, HEIGHT, CHANNELS and
COLORSPACE. -/
theorem test_decode_bad_header :
    decode .header [0x58, 0x4f, 0x49, 0x46] = .reject .badMagic ∧
    decode .header [0x58, 0x4f, 0x49] = .reject (.short 3) ∧
    decode .header [0x71, 0x6f, 0x69, 0x66, 0, 0, 0] = .reject (.short 4) ∧
    decode .header [0x71, 0x6f, 0x69, 0x66, 0, 0, 0, 1, 0, 0, 0] = .reject (.short 8) ∧
    decode .header [0x71, 0x6f, 0x69, 0x66, 0, 0, 0, 1, 0, 0, 0, 1] = .reject (.short 12) ∧
    decode .header [0x71, 0x6f, 0x69, 0x66, 0, 0, 0, 1, 0, 0, 0, 1, 3] = .reject (.short 13) := by decide

/-- Encodings of 95 section 2.4: E20, E24, E27, E3, E9. -/
theorem test_encode_words :
    encode (.diff (-2) (-2) (-1)) = [0x41] ∧ encode (.luma 31 7 7) = [0xbf, 0xff] ∧
    encode (.luma 16 2 (-2)) = [0xb0, 0xa6] ∧ encode (.run 62) = [0xfd] ∧ encode (.index 38) = [0x26] := by decide

/-! Words of the opcode table, their rows' samples. -/

theorem test_table_chunks :
    decodeTableWord 32 0x3264c8fe = some (.rgb 200 100 50) ∧
    decodeTableWord 40 0x80282015ff = some (.rgba 21 32 40 128) ∧
    decodeTableWord 8 0x09 = some (.index 9) ∧ decodeTableWord 8 0x79 = some (.diff 1 0 (-1)) ∧
    decodeTableWord 16 0x67ac = some (.luma 12 (-2) (-1)) ∧ decodeTableWord 8 0xc1 = some (.run 2) := by decide

theorem test_table_records :
    decodeTableWord 32 0x716f6966 = some (.header 0 0 0 0) ∧ decodeTableWord 64 1 = some .trailer ∧
    decodeTableWord 24 0x1e140a = some (.pixel3 10 20 30) ∧
    decodeTableWord 32 0x281e140a = some (.pixel4 10 20 30 40) := by decide

theorem test_fetch_word :
    (after (State.reset.withFetchWord 32 0x3264c8fe)).map (fun t => t.prev) = some ⟨200, 100, 50, 255⟩ ∧
    (after (State.reset.withFetchWord 64 1)).map (fun t => t.success) = some true ∧
    (after (State.reset.withFetchWord 24 0x1e140a)).map (fun t => t.prev) = some ⟨10, 20, 30, 255⟩ := by decide

/-! Arithmetic: rows of 95 sections 2.1 and 2.2. -/

theorem test_slot :
    slotOf ⟨0, 0, 0, 0⟩ = 0 ∧ slotOf ⟨255, 255, 255, 255⟩ = 38 ∧ slotOf ⟨0, 0, 0, 255⟩ = 53 ∧
    slotOf ⟨21, 32, 40, 128⟩ = 55 ∧ slotOf ⟨1, 2, 3, 4⟩ = 14 := by decide

theorem test_delta :
    delta 0 255 = 1 ∧ delta 255 0 = -1 ∧ delta 128 0 = -128 ∧ delta 0 127 = -127 ∧ delta 0 129 = 127 ∧
    applyDelta 250 38 = 32 ∧ applyDelta 0 (-40) = 216 ∧ applyDelta 127 (-128) = 255 := by decide

/-! One decoder pixel step for each chunk. -/

/-- X4. -/
theorem test_rgb_keeps_alpha :
    seenDecode (chunkAt ⟨1, 1, 1, 77⟩ [0xfe, 9, 8, 7]) 3 =
      some (⟨9, 8, 7, 77⟩, 0, ⟨9, 8, 7, 77⟩, [9, 8, 7, 77], 4) := by decide

/-- X7: CHANNELS 3, the alpha tracked and not emitted. -/
theorem test_rgba_three_channels :
    seenDecode { chunkAt ⟨0, 0, 0, 255⟩ [0xff, 1, 2, 3, 4] with channels := 3 } 14 =
      some (⟨1, 2, 3, 4⟩, 0, ⟨1, 2, 3, 4⟩, [1, 2, 3], 5) := by decide

/-- X9: INDEX 5 of a slot never written; the store goes to slot 0. -/
theorem test_index_stores_at_hash :
    seenDecode ((chunkAt ⟨9, 9, 9, 255⟩ [0x05]).store 0 ⟨64, 0, 0, 0⟩) 0 =
      some (⟨0, 0, 0, 0⟩, 0, ⟨0, 0, 0, 0⟩, [0, 0, 0, 0], 1) := by decide

/-- X12. -/
theorem test_diff_mixed :
    seenDecode (chunkAt ⟨255, 0, 10, 255⟩ [0x7c]) 50 =
      some (⟨0, 1, 8, 255⟩, 0, ⟨0, 1, 8, 255⟩, [0, 1, 8, 255], 1) := by decide

/-- X14. -/
theorem test_diff_wraps :
    seenDecode (chunkAt ⟨255, 255, 255, 255⟩ [0x7f]) 53 =
      some (⟨0, 0, 0, 255⟩, 0, ⟨0, 0, 0, 255⟩, [0, 0, 0, 255], 1) := by decide

/-- X17. -/
theorem test_luma_minimum :
    seenDecode (chunkAt ⟨0, 0, 0, 255⟩ [0x80, 0x00]) 5 =
      some (⟨216, 224, 216, 255⟩, 0, ⟨216, 224, 216, 255⟩, [216, 224, 216, 255], 2) := by decide

/-- X18. -/
theorem test_luma_maximum :
    seenDecode (chunkAt ⟨250, 250, 250, 255⟩ [0xbf, 0xff]) 50 =
      some (⟨32, 25, 32, 255⟩, 0, ⟨32, 25, 32, 255⟩, [32, 25, 32, 255], 2) := by decide

/-- X22. -/
theorem test_run_longest :
    seenDecode (chunkAt ⟨7, 7, 7, 255⟩ [0xfd]) 30 = some (⟨7, 7, 7, 255⟩, 61, ⟨7, 7, 7, 255⟩, [7, 7, 7, 255], 1) := by
  decide

/-- X1: a continuation does not look at the byte ahead and stores nothing. -/
theorem test_run_continues :
    seenDecode { chunkAt ⟨7, 7, 7, 255⟩ [0xfe] with run := 2, channels := 3 } 30 =
      some (⟨7, 7, 7, 255⟩, 1, ⟨0, 0, 0, 0⟩, [7, 7, 7], 0) := by decide

/-! One encoder pixel step for each path. -/

/-- E2, E3: the 61st equal pixel is only counted, the 62nd flushes. -/
theorem test_encode_run :
    seenEncode (rawAt ⟨5, 5, 5, 255⟩ 60 ⟨5, 5, 5, 255⟩) 0 = some (61, ⟨0, 0, 0, 0⟩, []) ∧
    seenEncode (rawAt ⟨5, 5, 5, 255⟩ 61 ⟨5, 5, 5, 255⟩) 0 = some (0, ⟨0, 0, 0, 0⟩, [0xfd]) := by decide

/-- E4, E5: the final pixel flushes, and never twice. -/
theorem test_encode_last :
    seenEncode (lastRawAt ⟨5, 5, 5, 255⟩ 3 ⟨5, 5, 5, 255⟩) 0 = some (0, ⟨0, 0, 0, 0⟩, [0xc3]) ∧
    seenEncode (lastRawAt ⟨5, 5, 5, 255⟩ 61 ⟨5, 5, 5, 255⟩) 0 = some (0, ⟨0, 0, 0, 0⟩, [0xfd]) := by decide

/-- E8: a pending run of 61 goes out before RGB. -/
theorem test_encode_flush_then_rgb :
    seenEncode (rawAt ⟨5, 5, 5, 255⟩ 61 ⟨200, 100, 50, 255⟩) 31 =
      some (0, ⟨200, 100, 50, 255⟩, [0xfc, 0xfe, 0xc8, 0x64, 0x32]) := by decide

/-- E11, E12: a hit wins over the alpha gate; a collision is a miss and overwrites the slot. -/
theorem test_encode_index_and_collision :
    seenEncode ((rawAt ⟨0, 0, 0, 255⟩ 0 ⟨0, 0, 0, 128⟩).store 0 ⟨0, 0, 0, 128⟩) 0 =
      some (0, ⟨0, 0, 0, 128⟩, [0x00]) ∧
    seenEncode ((rawAt ⟨0, 0, 0, 255⟩ 0 ⟨128, 128, 128, 128⟩).store 0 ⟨64, 0, 0, 0⟩) 0 =
      some (0, ⟨128, 128, 128, 128⟩, [0xff, 0x80, 0x80, 0x80, 0x80]) := by decide

/-- E20, E25: DIFF across the wrap, LUMA at its minimum. -/
theorem test_encode_deltas :
    seenEncode (rawAt ⟨0, 1, 0, 255⟩ 0 ⟨254, 255, 255, 255⟩) 35 = some (0, ⟨254, 255, 255, 255⟩, [0x41]) ∧
    seenEncode (rawAt ⟨100, 100, 100, 255⟩ 0 ⟨60, 68, 60, 255⟩) 33 = some (0, ⟨60, 68, 60, 255⟩, [0x80, 0x00]) := by
  decide

/-- E30, E29: one step outside LUMA. -/
theorem test_encode_outside_luma :
    seenEncode (rawAt ⟨100, 100, 100, 255⟩ 0 ⟨113, 105, 105, 255⟩) 52 =
      some (0, ⟨113, 105, 105, 255⟩, [0xfe, 0x71, 0x69, 0x69]) ∧
    seenEncode (rawAt ⟨100, 100, 100, 255⟩ 0 ⟨67, 67, 67, 255⟩) 34 =
      some (0, ⟨67, 67, 67, 255⟩, [0xfe, 0x43, 0x43, 0x43]) := by decide

/-- The RAW3 fetch gives alpha 255 (R100); E32's pixel from three bytes. -/
theorem test_encode_three_channels :
    seenEncode { rawAt ⟨0, 0, 0, 255⟩ 0 ⟨200, 100, 50, 9⟩ with channels := 3 } 31 =
      some (0, ⟨200, 100, 50, 255⟩, [0xfe, 0xc8, 0x64, 0x32]) := by decide

/-! Headers, trailers and failures. -/

/-- The second header of 95 section 2.3, written and read. -/
theorem test_header_written :
    (after { State.reset with phase := .hdr, width := 640, height := 480, channels := 3 }).map
      (fun t => (t.output, t.npix, t.phase)) =
      some ([0x71, 0x6f, 0x69, 0x66, 0, 0, 2, 0x80, 0, 0, 1, 0xe0, 3, 0], 307200, .pix) := by decide

theorem test_header_read :
    (after (decoding .hdr [0x71, 0x6f, 0x69, 0x66, 1, 2, 3, 4, 0xff, 0xff, 0xff, 0xfe, 4, 1])).map
      (fun t => (t.width, t.height, t.npix, t.ipos)) =
      some (0x01020304, 0xfffffffe, 72623859672283640, 14) := by decide

/-- An empty image leaves HDR for TRL (R74, S4). -/
theorem test_header_empty_image :
    (after { State.reset with phase := .hdr, width := 0, height := 5, channels := 4, colorspace := 1 }).map
      (fun t => (t.phase, t.opos)) = some (.trl, 14) := by decide

theorem test_trailer_written :
    seenEnd { State.reset with phase := .trl } = some (true, .none, .done, 0, [0, 0, 0, 0, 0, 0, 0, 1]) := by decide

/-- P5d: two bytes after the trailer are never read. -/
theorem test_trailer_read :
    seenEnd (decoding .trl [0, 0, 0, 0, 0, 0, 0, 1, 0xaa, 0xbb]) = some (true, .none, .done, 8, []) := by decide

/-- P5b: the last byte 0. -/
theorem test_trailer_mismatch :
    seenEnd (decoding .trl [0, 0, 0, 0, 0, 0, 0, 0]) = some (false, .badTrailer, .done, 8, []) := by decide

/-- S5. -/
theorem test_bad_magic :
    seenEnd (decoding .hdr [0x58, 0x4f, 0x49, 0x46, 0, 0, 0, 1]) = some (false, .badMagic, .done, 4, []) := by decide

/-- 95 section 2.9: the fault at the tag read. -/
theorem test_tag_read_exhausted :
    seenEnd (decoding .pix []) = some (false, .streamExhausted, .fault, 0, []) := by decide

/-- 95 section 2.3: a trailer of seven bytes. -/
theorem test_short_trailer_exhausted :
    seenEnd (decoding .trl [0, 0, 0, 0, 0, 0, 0]) = some (false, .streamExhausted, .fault, 7, []) := by decide

/-- A machine in FAULT stops; with a host start pending it goes on (R151). -/
theorem test_fault_and_restart :
    (after { State.reset with phase := .fault }).isNone = true ∧
    (after { State.reset with phase := .fault, pending := [.startEncode [1]] }).map (fun t => (t.phase, t.input)) =
      some (.hdr, [1]) := by decide

/-! Witnesses: for each statement with hypotheses, data that meet them all; where it has several clauses, one for each. -/

theorem witness_DecodeOfEncode :
    (Instr.rgb 0 0 0).wf = true ∧ (Instr.diff (-2) 1 0).wf = true ∧ (Instr.luma 31 (-8) 7).wf = true ∧
    (Instr.run 62).wf = true ∧ (Instr.header 0xffffffff 0 255 255).wf = true ∧ Instr.trailer.wf = true := by decide

theorem witness_EncodeOfDecode :
    decode .header ([0x71, 0x6f, 0x69, 0x66, 0, 0, 0, 1, 0, 0, 0, 1, 3, 0] ++ [7]) = .ok (.header 1 1 3 0) [7] ∧
    decode .chunk [0xfd, 7] = .ok (.run 62) [7] ∧ decode .trailer [0, 0, 0, 0, 0, 0, 0, 1] = .ok .trailer [] ∧
    decode .raw3 [1, 2, 3] = .ok (.pixel3 1 2 3) [] ∧ decode .raw4 [1, 2, 3, 4] = .ok (.pixel4 1 2 3 4) [] := by decide

/-- Both ends of every range; no end lies in two of them. -/
theorem witness_TagMapSelectsOneArm :
    (0x00 : Byte).toNat ≤ 0x3f ∧ (0x3f : Byte).toNat ≤ 0x3f ∧
    (0x40 ≤ (0x40 : Byte).toNat ∧ (0x40 : Byte).toNat ≤ 0x7f) ∧ (0x40 ≤ (0x7f : Byte).toNat ∧ (0x7f : Byte).toNat ≤ 0x7f) ∧
    (0x80 ≤ (0x80 : Byte).toNat ∧ (0x80 : Byte).toNat ≤ 0xbf) ∧ (0x80 ≤ (0xbf : Byte).toNat ∧ (0xbf : Byte).toNat ≤ 0xbf) ∧
    (0xc0 ≤ (0xc0 : Byte).toNat ∧ (0xc0 : Byte).toNat ≤ 0xfd) ∧ (0xc0 ≤ (0xfd : Byte).toNat ∧ (0xfd : Byte).toNat ≤ 0xfd) ∧
    ¬ (0xfe : Byte).toNat ≤ 0xfd := by decide

theorem witness_PackedChunkBytes :
    (Instr.diff (-2) (-2) (-2)).wf = true ∧ (Instr.diff 1 1 1).wf = true ∧ (Instr.luma (-32) (-8) (-8)).wf = true ∧
    (Instr.luma 31 7 7).wf = true ∧ (Instr.run 1).wf = true ∧ (Instr.run 62).wf = true := by decide

theorem witness_ChunkDecodingIsTotal :
    4 ≤ ([1, 2, 3, 4] : List Byte).length ∧ decode .chunk [] = .reject (.short 0) ∧
    decode .chunk [0xff, 1, 2, 3] = .reject (.short 4) ∧ decode .chunk [0x80] = .reject (.short 1) := by decide

theorem witness_PlacedTableWordRunsNext :
    decodeTableWord 8 0xfd = some (.run 62) ∧ decodeTableWord 64 1 = some .trailer ∧
    decodeTableWord 24 0x1e140a = some (.pixel3 10 20 30) := by decide

/-- A fresh state at that phase in Encode. -/
def encoding (ph : Phase) : State := { State.reset with phase := ph }

/-- A raw pixel step of an image with that many channels, with these bytes ahead. -/
def rawBytesAt (c : Byte) (bs : List Byte) : State :=
  { rawAt Config.initialPrev 0 Config.initialPrev with channels := c, input := bs }

theorem witness_StepRunsDecodedInstruction_header :
    (decoding .hdr (encode (.header 1 1 3 0))).phase = .hdr ∧ (decoding .hdr (encode (.header 1 1 3 0))).mode = .decode ∧
    decode .header (decoding .hdr (encode (.header 1 1 3 0))).ahead = .ok (.header 1 1 3 0) [] ∧
    (encoding .hdr).phase = .hdr ∧ (encoding .hdr).mode = .encode := by decide

theorem witness_StepRunsDecodedInstruction_trailer :
    (decoding .trl (encode .trailer)).phase = .trl ∧ (decoding .trl (encode .trailer)).mode = .decode ∧
    decode .trailer (decoding .trl (encode .trailer)).ahead = .ok .trailer [] ∧
    (encoding .trl).phase = .trl ∧ (encoding .trl).mode = .encode := by decide

theorem witness_StepRunsDecodedInstruction_pixels :
    ((decoding .pix [0xc0]).atChunk ∧ decode .chunk (decoding .pix [0xc0]).ahead = .ok (.run 1) []) ∧
    ((rawBytesAt 4 [1, 2, 3, 4]).atRaw ∧ (rawBytesAt 4 [1, 2, 3, 4]).channels = 4 ∧
      decode .raw4 (rawBytesAt 4 [1, 2, 3, 4]).ahead = .ok (.pixel4 1 2 3 4) []) ∧
    ((rawBytesAt 5 [1, 2, 3]).atRaw ∧ (rawBytesAt 5 [1, 2, 3]).channels ≠ 4 ∧
      decode .raw3 (rawBytesAt 5 [1, 2, 3]).ahead = .ok (.pixel3 1 2 3) []) := by decide

/-- The header: three bytes of the magic; then one byte short of the whole. -/
theorem witness_ShortInput_header :
    ((decoding .hdr [0x71, 0x6f, 0x69]).phase = .hdr ∧ (decoding .hdr [0x71, 0x6f, 0x69]).mode = .decode ∧
      (decoding .hdr [0x71, 0x6f, 0x69]).ahead.length < 4) ∧
    ((decoding .hdr [0x71, 0x6f, 0x69, 0x66, 0, 0, 0, 1, 0, 0, 0, 1, 3]).phase = .hdr ∧
      (decoding .hdr [0x71, 0x6f, 0x69, 0x66, 0, 0, 0, 1, 0, 0, 0, 1, 3]).mode = .decode ∧
      (decoding .hdr [0x71, 0x6f, 0x69, 0x66, 0, 0, 0, 1, 0, 0, 0, 1, 3]).ahead =
        [0x71, 0x6f, 0x69, 0x66] ++ [0, 0, 0, 1, 0, 0, 0, 1, 3] ∧
      ([0, 0, 0, 1, 0, 0, 0, 1, 3] : List Byte).length < 10) := by decide

/-- The chunks: no tag; RGB, RGBA and LUMA one byte short. -/
theorem witness_ShortInput_chunk :
    ((decoding .pix []).atChunk ∧ (decoding .pix []).ahead = []) ∧
    ((decoding .pix [0xfe, 1, 2]).atChunk ∧ (decoding .pix [0xfe, 1, 2]).ahead = 0xfe :: [1, 2] ∧
      ([1, 2] : List Byte).length < 3) ∧
    ((decoding .pix [0xff, 1, 2, 3]).atChunk ∧ (decoding .pix [0xff, 1, 2, 3]).ahead = 0xff :: [1, 2, 3] ∧
      ([1, 2, 3] : List Byte).length < 4) ∧
    ((decoding .pix [0xbf]).atChunk ∧ (decoding .pix [0xbf]).ahead = [0xbf] ∧ 0x80 ≤ (0xbf : Byte).toNat ∧
      (0xbf : Byte).toNat ≤ 0xbf) := by decide

/-- The trailer and the raw pixels, one byte short. -/
theorem witness_ShortInput_trailer_raw :
    ((decoding .trl [0, 0, 0, 0, 0, 0, 0]).phase = .trl ∧ (decoding .trl [0, 0, 0, 0, 0, 0, 0]).mode = .decode ∧
      (decoding .trl [0, 0, 0, 0, 0, 0, 0]).ahead.length < 8) ∧
    ((rawBytesAt 4 [1, 2, 3]).atRaw ∧
      (rawBytesAt 4 [1, 2, 3]).ahead.length < bytesPerPixel (rawBytesAt 4 [1, 2, 3]).channels) ∧
    ((rawBytesAt 3 [1, 2]).atRaw ∧
      (rawBytesAt 3 [1, 2]).ahead.length < bytesPerPixel (rawBytesAt 3 [1, 2]).channels) := by decide

/-- A block at that phase with these host moves. -/
def hosted (ph : Phase) (q : List HostMove) : State := { State.reset with phase := ph, pending := q }

/-- A start is taken in IDLE, in DONE and in FAULT. -/
theorem witness_EncodeStartInitialises :
    ((hosted .idle [.startEncode [1]]).ended ∧ (hosted .idle [.startEncode [1]]).pending = .startEncode [1] :: []) ∧
    ((hosted .done [.startEncode []]).ended ∧ (hosted .done [.startEncode []]).pending = .startEncode [] :: []) ∧
    ((hosted .fault [.startEncode [1]]).ended ∧ (hosted .fault [.startEncode [1]]).pending = .startEncode [1] :: []) := by
  decide

theorem witness_DecodeStartInitialises :
    ((hosted .idle [.startDecode [1]]).ended ∧ (hosted .idle [.startDecode [1]]).pending = .startDecode [1] :: []) ∧
    ((hosted .fault [.startDecode []]).ended ∧ (hosted .fault [.startDecode []]).pending = .startDecode [] :: []) := by
  decide

theorem witness_HostWritesParameters :
    ((hosted .idle [.writeWidth 7]).ended ∧ (hosted .idle [.writeWidth 7]).pending = .writeWidth 7 :: []) ∧
    ((hosted .done [.writeHeight 7]).ended ∧ (hosted .done [.writeHeight 7]).pending = .writeHeight 7 :: []) ∧
    ((hosted .fault [.writeChannels 7]).ended ∧ (hosted .fault [.writeChannels 7]).pending = .writeChannels 7 :: []) ∧
    ((hosted .idle [.writeColorspace 7]).ended ∧ (hosted .idle [.writeColorspace 7]).pending = .writeColorspace 7 :: []) := by
  decide

theorem witness_HostWithoutMove :
    ((hosted .idle []).pending = [] ∧ (hosted .idle []).phase = .idle) ∧
    ((hosted .done []).pending = [] ∧ (hosted .done []).phase = .done) ∧
    ((hosted .fault []).pending = [] ∧ (hosted .fault []).phase = .fault) := by decide

theorem witness_HostHasNoMoveWhileRunning :
    (decoding .pix [0xc0]).running ∧ (after (decoding .pix [0xc0])).isSome = true := by decide

theorem witness_HeaderReadInDecode :
    (decoding .hdr (encode (.header 0x01020304 0xfffffffe 4 1))).mode = .decode ∧
    (decoding .hdr (encode (.header 0x01020304 0xfffffffe 4 1))).phase = .hdr ∧
    (0x01020304 : BitVec 32).toNat =
      (1 : Byte).toNat * 2 ^ 24 + (2 : Byte).toNat * 2 ^ 16 + (3 : Byte).toNat * 2 ^ 8 + (4 : Byte).toNat ∧
    (0xfffffffe : BitVec 32).toNat =
      (255 : Byte).toNat * 2 ^ 24 + (255 : Byte).toNat * 2 ^ 16 + (255 : Byte).toNat * 2 ^ 8 + (254 : Byte).toNat ∧
    (decoding .hdr (encode (.header 0x01020304 0xfffffffe 4 1))).ahead =
      [0x71, 0x6f, 0x69, 0x66, 1, 2, 3, 4, 255, 255, 255, 254, 4, 1] ++ [] ∧
    ((decoding .hdr [0x71, 0x6f, 0x69, 0x66, 1]).mode = .decode ∧ (decoding .hdr [0x71, 0x6f, 0x69, 0x66, 1]).phase = .hdr ∧
      (decoding .hdr [0x71, 0x6f, 0x69, 0x66, 1]).ahead = [0x71, 0x6f, 0x69, 0x66] ++ [1] ∧
      ([1] : List Byte).length < 10) := by decide

/-- The last byte of the magic wrong, in a state that a start has just left (the last clause's hypothesis). -/
theorem witness_WrongMagicEndsDecode :
    ((decoding .hdr [0x71, 0x6f, 0x69, 0x67]).phase = .hdr ∧ (decoding .hdr [0x71, 0x6f, 0x69, 0x67]).mode = .decode ∧
      (decoding .hdr [0x71, 0x6f, 0x69, 0x67]).ahead = 0x71 :: 0x6f :: 0x69 :: 0x67 :: [] ∧
      ¬ ((0x71 : Byte) = 0x71 ∧ (0x6f : Byte) = 0x6f ∧ (0x69 : Byte) = 0x69 ∧ (0x67 : Byte) = 0x66)) ∧
    Started State.reset (decoding .hdr [0x71, 0x6f, 0x69, 0x67]) .decode [0x71, 0x6f, 0x69, 0x67] [] :=
  ⟨by decide, rfl, rfl, by decide, rfl, rfl, rfl, rfl, rfl, rfl, rfl, rfl, rfl⟩

theorem witness_HeaderWrittenInEncode :
    (encoding .hdr).mode = .encode ∧ (0 : BitVec 32) = (encoding .hdr).width ∧ (0 : BitVec 32) = (encoding .hdr).height ∧
    (0 : Byte) = (encoding .hdr).channels ∧ (0 : Byte) = (encoding .hdr).colorspace := by decide

/-- A matching trailer, and one that differs in its last bit. -/
theorem witness_TrailerCheckedInDecode :
    ((decoding .trl [0, 0, 0, 0, 0, 0, 0, 1]).mode = .decode ∧ (decoding .trl [0, 0, 0, 0, 0, 0, 0, 1]).phase = .trl ∧
      (decoding .trl [0, 0, 0, 0, 0, 0, 0, 1]).ahead = [0, 0, 0, 0, 0, 0, 0, 1] ++ []) ∧
    ((decoding .trl [0, 0, 0, 0, 0, 0, 0, 0, 5]).mode = .decode ∧ (decoding .trl [0, 0, 0, 0, 0, 0, 0, 0, 5]).phase = .trl ∧
      (decoding .trl [0, 0, 0, 0, 0, 0, 0, 0, 5]).ahead = [0, 0, 0, 0, 0, 0, 0, 0] ++ [5] ∧
      ([0, 0, 0, 0, 0, 0, 0, 0] : List Byte).length = 8) := by decide

theorem witness_TrailerWrittenInEncode : (encoding .trl).mode = .encode := by decide

theorem witness_EncodeOfNoPixels :
    (encoding .hdr).phase = .hdr ∧ (encoding .hdr).mode = .encode ∧ (encoding .hdr).pxi = 0 ∧
    (encoding .hdr).width = 0 := by decide

/-- S4's stream. -/
theorem witness_DecodeOfNoPixels :
    (decoding .hdr (encode (.header 0 5 4 1) ++ [0, 0, 0, 0, 0, 0, 0, 1])).phase = .hdr ∧
    (decoding .hdr (encode (.header 0 5 4 1) ++ [0, 0, 0, 0, 0, 0, 0, 1])).mode = .decode ∧
    (decoding .hdr (encode (.header 0 5 4 1) ++ [0, 0, 0, 0, 0, 0, 0, 1])).pxi = 0 ∧
    ([0, 0, 0, 0, 0, 0, 0, 1] : List Byte).length = 8 ∧
    (decoding .hdr (encode (.header 0 5 4 1) ++ [0, 0, 0, 0, 0, 0, 0, 1])).ahead =
      encode (.header 0 5 4 1) ++ [0, 0, 0, 0, 0, 0, 0, 1] ++ [] := by decide

theorem witness_RgbInDecode :
    (decoding .pix [0xfe, 1, 2, 3]).mode = .decode ∧ (decoding .pix [0xfe, 1, 2, 3]).atChunk ∧
    (decoding .pix [0xfe, 1, 2, 3]).ahead = 0xfe :: 1 :: 2 :: 3 :: [] ∧
    ((decoding .pix [0xfe, 1, 2]).mode = .decode ∧ (decoding .pix [0xfe, 1, 2]).atChunk ∧
      (decoding .pix [0xfe, 1, 2]).ahead = 0xfe :: [1, 2] ∧ ([1, 2] : List Byte).length < 3) := by decide

theorem witness_RgbaInDecode :
    (decoding .pix [0xff, 1, 2, 3, 4]).mode = .decode ∧ (decoding .pix [0xff, 1, 2, 3, 4]).atChunk ∧
    (decoding .pix [0xff, 1, 2, 3, 4]).ahead = 0xff :: 1 :: 2 :: 3 :: 4 :: [] ∧
    ((decoding .pix [0xff, 1, 2, 3]).mode = .decode ∧ (decoding .pix [0xff, 1, 2, 3]).atChunk ∧
      (decoding .pix [0xff, 1, 2, 3]).ahead = 0xff :: [1, 2, 3] ∧ ([1, 2, 3] : List Byte).length < 4) := by decide

theorem witness_IndexInDecode :
    (decoding .pix [0x3f]).mode = .decode ∧ (decoding .pix [0x3f]).atChunk ∧ (decoding .pix [0x3f]).ahead = 0x3f :: [] ∧
    (0x3f : Byte).toNat = (63 : BitVec 6).toNat := by decide

theorem witness_DiffInDecode :
    ((decoding .pix [0x40]).mode = .decode ∧ (decoding .pix [0x40]).atChunk ∧ (decoding .pix [0x40]).ahead = 0x40 :: [] ∧
      0x40 ≤ (0x40 : Byte).toNat ∧ (0x40 : Byte).toNat ≤ 0x7f) ∧
    ((decoding .pix [0x7f]).atChunk ∧ (decoding .pix [0x7f]).ahead = 0x7f :: [] ∧ (0x7f : Byte).toNat ≤ 0x7f) := by decide

theorem witness_LumaInDecode :
    ((decoding .pix [0xbf, 0xff]).mode = .decode ∧ (decoding .pix [0xbf, 0xff]).atChunk ∧
      (decoding .pix [0xbf, 0xff]).ahead = 0xbf :: 0xff :: [] ∧ 0x80 ≤ (0xbf : Byte).toNat ∧ (0xbf : Byte).toNat ≤ 0xbf) ∧
    ((decoding .pix [0x80]).mode = .decode ∧ (decoding .pix [0x80]).atChunk ∧ (decoding .pix [0x80]).ahead = [0x80] ∧
      0x80 ≤ (0x80 : Byte).toNat ∧ (0x80 : Byte).toNat ≤ 0xbf) := by decide

theorem witness_RunInDecode :
    ((decoding .pix [0xfd]).mode = .decode ∧ (decoding .pix [0xfd]).atChunk ∧ (decoding .pix [0xfd]).ahead = 0xfd :: [] ∧
      (0xfd : Byte).toNat = 0xc0 + (62 - 1)) ∧
    ((decoding .pix [0xc0]).atChunk ∧ (decoding .pix [0xc0]).ahead = 0xc0 :: [] ∧ (0xc0 : Byte).toNat = 0xc0 + (1 - 1)) := by
  decide

/-- A run of nine at the start of nine pixels. -/
theorem witness_RunChunkProducesItsLength :
    (decoding .pix [0xc8]).atChunk ∧ 1 ≤ 9 ∧ 9 ≤ 62 ∧ (0xc8 : Byte).toNat = 0xc0 + (9 - 1) ∧
    (decoding .pix [0xc8]).ahead = 0xc8 :: [] ∧ (decoding .pix [0xc8]).pxi.toNat + 9 ≤ (decoding .pix [0xc8]).npix.toNat := by
  decide

/-- A decoder with a run left. -/
def continuing (run : BitVec 6) (n : BitVec 64) : State := { decoding .pix [] with run := run, npix := n }

theorem witness_RunContinuation : (continuing 1 9).atContinuation ∧ (continuing 61 9).atContinuation := by decide

theorem witness_HistoryStoreAfterEveryChunk :
    (decoding .pix [0xc0]).atChunk ∧ decode .chunk (decoding .pix [0xc0]).ahead = .ok (.run 1) [] ∧
    (continuing 1 9).atContinuation := by decide

theorem witness_DecoderStepEmitsOnePixel :
    ((decoding .pix [0xc0]).phase = .pix ∧ (decoding .pix [0xc0]).mode = .decode ∧
      (decoding .pix [0xc0]).pxi < (decoding .pix [0xc0]).npix ∧ (decoding .pix [0xc0]).run = 0 ∧
      (after (decoding .pix [0xc0])).map (fun t => t.phase) = some .pix) ∧
    ((continuing 1 9).phase = .pix ∧ (continuing 1 9).mode = .decode ∧ (continuing 1 9).pxi < (continuing 1 9).npix ∧
      (continuing 1 9).run ≠ 0 ∧ (after (continuing 1 9)).map (fun t => t.phase) = some .pix) := by decide

theorem witness_LeftoverRunIsDropped :
    ((continuing 5 1).atContinuation ∧ (continuing 5 1).pxi.toNat + 1 = (continuing 5 1).npix.toNat) ∧
    ((decoding .trl (encode .trailer)).phase = .trl ∧ (decoding .trl (encode .trailer)).mode = .decode ∧
      (after (decoding .trl (encode .trailer))).map (fun t => t.phase) = some .done) := by decide

theorem witness_RawPixelFetch :
    ((rawBytesAt 4 [1, 2, 3, 4]).atRaw ∧ (rawBytesAt 4 [1, 2, 3, 4]).channels = 4 ∧
      (rawBytesAt 4 [1, 2, 3, 4]).ahead = 1 :: 2 :: 3 :: 4 :: []) ∧
    ((rawBytesAt 5 [1, 2, 3]).atRaw ∧ (rawBytesAt 5 [1, 2, 3]).channels ≠ 4 ∧
      (rawBytesAt 5 [1, 2, 3]).ahead = 1 :: 2 :: 3 :: []) ∧
    ((rawBytesAt 4 [1, 2, 3]).atRaw ∧
      (rawBytesAt 4 [1, 2, 3]).ahead.length < (if (rawBytesAt 4 [1, 2, 3]).channels = 4 then 4 else 3)) := by decide

/-- Both raw formats; run 60 is counted, run 61 flushed, and so is the final pixel. -/
theorem witness_EqualPixelIsCounted :
    ((rawAt ⟨5, 5, 5, 255⟩ 60 ⟨5, 5, 5, 255⟩).mode = .encode ∧ RawPixelOf (.pixel4 5 5 5 255) ⟨5, 5, 5, 255⟩ 4 ∧
      RawPixelOf (.pixel3 5 5 5) ⟨5, 5, 5, 255⟩ 3 ∧ (⟨5, 5, 5, 255⟩ : Pixel) = (rawAt ⟨5, 5, 5, 255⟩ 60 ⟨5, 5, 5, 255⟩).prev ∧
      (rawAt ⟨5, 5, 5, 255⟩ 60 ⟨5, 5, 5, 255⟩).run.toNat + 1 ≠ 62 ∧
      (rawAt ⟨5, 5, 5, 255⟩ 60 ⟨5, 5, 5, 255⟩).pxi.toNat + 1 ≠ (rawAt ⟨5, 5, 5, 255⟩ 60 ⟨5, 5, 5, 255⟩).npix.toNat) ∧
    ((rawAt ⟨5, 5, 5, 255⟩ 61 ⟨5, 5, 5, 255⟩).run.toNat + 1 = 62 ∧
      (rawAt ⟨5, 5, 5, 255⟩ 61 ⟨5, 5, 5, 255⟩).run.toNat ≤ 61) ∧
    ((lastRawAt ⟨5, 5, 5, 255⟩ 0 ⟨5, 5, 5, 255⟩).pxi.toNat + 1 = (lastRawAt ⟨5, 5, 5, 255⟩ 0 ⟨5, 5, 5, 255⟩).npix.toNat ∧
      (lastRawAt ⟨5, 5, 5, 255⟩ 0 ⟨5, 5, 5, 255⟩).run.toNat ≤ 61) := by unfold RawPixelOf; decide

/-- E13 with a run pending. -/
theorem witness_HistoryHitIsIndexed :
    (rawAt ⟨9, 9, 9, 255⟩ 3 ⟨0, 0, 0, 0⟩).mode = .encode ∧ RawPixelOf (.pixel4 0 0 0 0) ⟨0, 0, 0, 0⟩ 4 ∧
    (⟨0, 0, 0, 0⟩ : Pixel) ≠ (rawAt ⟨9, 9, 9, 255⟩ 3 ⟨0, 0, 0, 0⟩).prev ∧
    (rawAt ⟨9, 9, 9, 255⟩ 3 ⟨0, 0, 0, 0⟩).lookup (slotOf ⟨0, 0, 0, 0⟩) = ⟨0, 0, 0, 0⟩ := by unfold RawPixelOf; decide

/-- E15. -/
theorem witness_ChangedAlphaIsLiteral :
    (rawAt ⟨0, 0, 0, 255⟩ 0 ⟨0, 0, 0, 128⟩).mode = .encode ∧ RawPixelOf (.pixel4 0 0 0 128) ⟨0, 0, 0, 128⟩ 4 ∧
    (rawAt ⟨0, 0, 0, 255⟩ 0 ⟨0, 0, 0, 128⟩).lookup (slotOf ⟨0, 0, 0, 128⟩) ≠ ⟨0, 0, 0, 128⟩ ∧
    (128 : Byte) ≠ (rawAt ⟨0, 0, 0, 255⟩ 0 ⟨0, 0, 0, 128⟩).prev.a := by unfold RawPixelOf; decide

/-- The hypotheses the three delta statements share, for the pixel p after q, both RAW4. -/
def MissedWith (q p : Pixel) (dr dg db : Int) : Prop :=
  (rawAt q 0 p).mode = .encode ∧ RawPixelOf (.pixel4 p.r p.g p.b p.a) p 4 ∧ p ≠ (rawAt q 0 p).prev ∧
  (rawAt q 0 p).lookup (slotOf p) ≠ p ∧ p.a = (rawAt q 0 p).prev.a ∧ IsDelta p.r (rawAt q 0 p).prev.r dr ∧
  IsDelta p.g (rawAt q 0 p).prev.g dg ∧ IsDelta p.b (rawAt q 0 p).prev.b db

/-- E17 and E18: all three deltas at −2, and all three at 1. -/
theorem witness_SmallDeltasAreDiff :
    MissedWith ⟨10, 10, 10, 255⟩ ⟨8, 8, 8, 255⟩ (-2) (-2) (-2) ∧ MissedWith ⟨10, 10, 10, 255⟩ ⟨11, 11, 11, 255⟩ 1 1 1 := by
  unfold MissedWith RawPixelOf IsDelta; decide

/-- E22: red just outside DIFF. E24 and E25: LUMA at its maximum and its minimum. -/
theorem witness_MediumDeltasAreLuma :
    MissedWith ⟨10, 10, 10, 255⟩ ⟨12, 10, 10, 255⟩ 2 0 0 ∧ MissedWith ⟨100, 100, 100, 255⟩ ⟨138, 131, 138, 255⟩ 38 31 38 ∧
    MissedWith ⟨100, 100, 100, 255⟩ ⟨60, 68, 60, 255⟩ (-40) (-32) (-40) := by
  unfold MissedWith RawPixelOf IsDelta; decide

/-- E28: green just outside LUMA. E30: red. E33: a delta of −128. -/
theorem witness_OtherPixelsAreRgb :
    MissedWith ⟨100, 100, 100, 255⟩ ⟨132, 132, 132, 255⟩ 32 32 32 ∧
    MissedWith ⟨100, 100, 100, 255⟩ ⟨113, 105, 105, 255⟩ 13 5 5 ∧ MissedWith ⟨0, 0, 0, 255⟩ ⟨128, 0, 0, 255⟩ (-128) 0 0 := by
  unfold MissedWith RawPixelOf IsDelta; decide

theorem witness_EncoderStepShape :
    (rawAt ⟨5, 5, 5, 255⟩ 61 ⟨200, 100, 50, 255⟩).atRaw ∧ (rawAt ⟨5, 5, 5, 255⟩ 61 ⟨200, 100, 50, 255⟩).run.toNat ≤ 61 ∧
    (after (rawAt ⟨5, 5, 5, 255⟩ 61 ⟨200, 100, 50, 255⟩)).map (fun t => t.phase) = some .pix := by decide

theorem witness_WrittenRecordIsAppended :
    ((encoding .pix).mode = .encode ∧ (Instr.run 1).isChunk = true) ∧
    ((decoding .pix []).mode = .decode ∧ (Instr.pixel3 1 2 3).site = .raw3 ∧ (Instr.pixel4 1 2 3 4).site = .raw4) := by decide

/-- E21's pixel, as the chunk ahead of a decoder with the same PREV. -/
theorem witness_EmittedChunkRebuildsPixel :
    (chunkAt ⟨10, 10, 10, 255⟩ [0x76]).atChunk ∧
    (chunkAt ⟨10, 10, 10, 255⟩ [0x76]).ahead =
      encode (codeMiss ⟨11, 9, 10, 255⟩ (chunkAt ⟨10, 10, 10, 255⟩ [0x76]).prev) ++ [] := by decide

/-- The smallest width the sum may be cut to, and the one that holds it whole. -/
theorem witness_HashIsReducedWeightedSum : 6 ≤ 6 ∧ 6 ≤ 13 := by decide

/-! The invariants hold in a running command from which a step is taken. -/

theorem witness_StepKeepsStreams :
    (decoding .pix [0xc0]).StreamsWf ∧ (after (decoding .pix [0xc0])).isSome = true := by decide

theorem witness_StepKeepsCodec : (decoding .pix [0xc0]).CodecWf ∧ (after (decoding .pix [0xc0])).isSome = true :=
  ⟨fun _ => ⟨fun i => .inl (by revert i; decide), by decide⟩, by decide⟩

/-- Pixel 0 of a 3 × 3 image, both modes. -/
def midway (s : State) : State := { s with width := 3, height := 3 }

theorem witness_StepKeepsLoop :
    (midway (decoding .pix [0xc0])).LoopWf ∧ (after (midway (decoding .pix [0xc0]))).isSome = true :=
  ⟨⟨fun h => (nomatch h), fun _ => by decide, fun h => (nomatch h)⟩, by decide⟩

theorem witness_StepKeepsStatus :
    (decoding .trl (encode .trailer)).StatusWf ∧ (after (decoding .trl (encode .trailer))).isSome = true :=
  ⟨⟨fun h => (nomatch h), fun h => (nomatch h)⟩, by decide⟩

theorem witness_StepKeepsEncoder :
    (midway (rawAt ⟨0, 0, 0, 255⟩ 2 ⟨0, 0, 0, 255⟩)).LoopWf ∧ (midway (rawAt ⟨0, 0, 0, 255⟩ 2 ⟨0, 0, 0, 255⟩)).EncoderWf ∧
    (after (midway (rawAt ⟨0, 0, 0, 255⟩ 2 ⟨0, 0, 0, 255⟩))).isSome = true :=
  ⟨⟨fun h => (nomatch h), fun _ => by decide, fun h => (nomatch h)⟩,
    fun _ _ => ⟨.inl ⟨rfl, fun i => by revert i; decide⟩, fun _ => rfl, fun h => h.elim (fun h => (nomatch h)) fun h => (nomatch h)⟩,
    by decide⟩

/-- Two pixels of four bytes read, 14 bytes written. -/
def positioned : State :=
  { rawAt ⟨0, 0, 0, 255⟩ 2 ⟨0, 0, 0, 255⟩ with ipos := 8, opos := 14, input := List.replicate 12 0 }

theorem witness_StepKeepsPositions : positioned.PositionsWf ∧ (after positioned).isSome = true :=
  ⟨⟨fun h => (nomatch h), fun _ => ⟨by decide, by decide, by decide⟩⟩, by decide⟩

theorem witness_StreamsOnlyGrow :
    (decoding .pix [0xc0]).running ∧ (after (decoding .pix [0xc0])).isSome = true := by decide

/-- A one-pixel Encode command that has just started. -/
def onePixel : State := { encoding .hdr with width := 1, height := 1, channels := 4, input := [1, 2, 3, 4] }

theorem witness_EncodeEndsInCountedSteps :
    onePixel.phase = .hdr ∧ onePixel.mode = .encode ∧ onePixel.PositionsWf ∧
    onePixel.width.toNat * onePixel.height.toNat * bytesPerPixel onePixel.channels ≤ onePixel.input.length :=
  ⟨rfl, rfl, ⟨fun _ => by decide, fun h => h.elim (fun h => (nomatch h)) fun h => (nomatch h)⟩, by decide⟩

/-- A block that another command has left behind. -/
def usedBlock (q : List HostMove) : State := { hosted .done q with run := 5, prev := ⟨1, 2, 3, 4⟩ }

/-- Two blocks that start the same command; and two states of one command. -/
theorem witness_NothingSurvivesACommand :
    ((hosted .idle [.startDecode [1]]).ended ∧ (usedBlock [.startDecode [1]]).ended ∧
      (hosted .idle [.startDecode [1]]).pending = .startDecode [1] :: [] ∧
      (usedBlock [.startDecode [1]]).pending = .startDecode [1] :: [] ∧
      (after (hosted .idle [.startDecode [1]])).isSome = true ∧ (after (usedBlock [.startDecode [1]])).isSome = true) ∧
    (SameParams (hosted .idle [.startEncode [1]]) (usedBlock [.startEncode [1]])) ∧
    ((decoding .pix [0xc0]).running ∧ SameCommand (decoding .pix [0xc0]) ((decoding .pix [0xc0]).setPending [.writeWidth 1]) ∧
      (after (decoding .pix [0xc0])).isSome = true) :=
  ⟨⟨by decide, by decide, rfl, rfl, rfl, rfl⟩, by decide,
    by decide, ⟨rfl, rfl, ⟨rfl, rfl, rfl⟩, rfl, rfl, rfl, rfl, rfl, fun _ => ⟨rfl, rfl, rfl, rfl⟩, fun _ => rfl⟩, rfl⟩

theorem witness_NoReadAhead :
    (decoding .pix [0xc0, 9]).running ∧ (decoding .pix [0xc0, 9]).StreamsWf ∧
    (after (decoding .pix [0xc0, 9])).map (fun t => (t.phase, t.ipos)) = some (.pix, 1) := by decide

/-- S3's image, one black pixel of three channels. -/
def blackPixel : State := { hosted .idle [.startEncode [0, 0, 0]] with width := 1, height := 1, channels := 3 }

/-- S3's stream. -/
def blackPixelStream : List Byte :=
  [0x71, 0x6f, 0x69, 0x66, 0, 0, 0, 1, 0, 0, 0, 1, 3, 0, 0xc0, 0, 0, 0, 0, 0, 0, 0, 1]

/-- Encode of S3's image: the host's start and three steps. -/
theorem test_encode_black_pixel :
    ((((after blackPixel).bind after).bind after).bind after).map (fun t => (t.output, t.phase)) =
      some (blackPixelStream, .done) := by decide

theorem witness_DecodeInvertsEncode :
    blackPixel.ended ∧ blackPixel.pending = .startEncode [0, 0, 0] :: [] ∧
    ([0, 0, 0] : List Byte).length = blackPixel.width.toNat * blackPixel.height.toNat * bytesPerPixel blackPixel.channels ∧
    (hosted .idle [.startDecode blackPixelStream]).ended ∧
    (hosted .idle [.startDecode blackPixelStream]).pending = .startDecode blackPixelStream :: [] := by decide

end Sys2Proof.Tests
end

/-! PROOFS. Rules about one step that several statements use: the inversion `StepsTo` read backwards, the host's
move, which failure belongs to which read, and the phase a pixel step leaves. -/

namespace Sys2Proof.Machine

/-! The step. -/

/-- Between commands the host's next move is the whole step (R85). -/
theorem step_host {s : State} {m : HostMove} {q : List HostMove} (h : s.ended) (hp : s.pending = m :: q) :
    step s = .next ((s.setPending q).hostMove m) := by
  rcases h with h | h | h <;> simp [step, nextMove, State.hostTurn, h, hp]

/-- `step_cases` read backwards: each of its cases is a step. -/
theorem StepsTo.step {s t : State} (h : StepsTo s t) : step s = .next t := by
  cases h with
  | waits h hp => rcases h with h | h <;> simp [Machine.step, nextMove, State.hostTurn, h, hp]
  | host h m q hp => exact step_host h hp
  | fails site h r hd => exact step_fetch_reject (nextMove_reads h) hd
  | headerWritten h hm => simp [Machine.step, nextMove, h, hm, exec, execHeader]
  | headerRead h hm w ht c k rest hd =>
    rw [step_fetch_ok (nextMove_reads (site := .header) ⟨h, hm⟩) hd]
    simp [exec, execHeader, hm]
  | chunk h i rest hd hi hw =>
    rw [step_fetch_ok (nextMove_reads (site := .chunk) h) hd, exec_chunk hi h.2.1]
  | continues h =>
    obtain ⟨hph, hm, hl, hr⟩ := h
    simp [Machine.step, nextMove, State.pixelMove, hph, hm, hl, run_pos hr]
  | raw h i rest hd p hi ha =>
    rw [step_fetch_ok (nextMove_reads (State.reads_rawSite h)) hd, exec_raw hi h.2.1]
  | leaves h hl => simp [Machine.step, nextMove, h, hl]
  | trailerWritten h hm => simp [Machine.step, nextMove, h, hm, exec, execTrailer]
  | trailerRead h hm rest hd =>
    rw [step_fetch_ok (nextMove_reads (site := .trailer) ⟨h, hm⟩) hd]
    simp [exec, execTrailer, hm]

theorem State.ended_not_running {s : State} (h : s.ended) : ¬ s.running := by
  rcases h with h | h | h <;> simp [State.running, h]

theorem State.running_or_ended (s : State) : s.running ∨ s.ended := by
  cases h : s.phase <;> simp [State.running, State.ended, h]

/-- A step between commands waits or takes the host's next move (R85). -/
theorem step_ended_cases {s t : State} (hs : s.ended) (h : step s = .next t) :
    t = s ∨ ∃ m q, t = (s.setPending q).hostMove m := by
  cases hp : s.pending with
  | nil =>
    rcases hs with hs | hs | hs <;> simp [step, nextMove, State.hostTurn, hs, hp] at h
    all_goals exact .inl h.symm
  | cons m q =>
    rw [step_host hs hp] at h
    cases h
    exact .inr ⟨m, q, rfl⟩

/-! Failures. -/

/-- A chunk and a raw pixel fail in one way only: the stream ends (R142). -/
theorem decode_pixel_reject_short {site : Site} {bs : List Byte} {r : Reject} (hh : site ≠ .header)
    (ht : site ≠ .trailer) (h : decode site bs = .reject r) : ∃ n, r = .short n := by
  cases site with
  | header => exact absurd rfl hh
  | trailer => exact absurd rfl ht
  | raw3 => simp only [decode, decodeRaw3] at h; split at h <;> simp at h; exact ⟨_, h.symm⟩
  | raw4 => simp only [decode, decodeRaw4] at h; split at h <;> simp at h; exact ⟨_, h.symm⟩
  | chunk =>
    simp only [decode] at h
    cases bs with
    | nil => simp [decodeChunk] at h; exact ⟨_, h.symm⟩
    | cons t tl =>
      simp only [decodeChunk] at h
      split_ifs at h
      all_goals split at h <;> simp at h
      all_goals exact ⟨_, h.symm⟩

/-- A header fails by its magic or by the end of the stream (R78, R79). -/
theorem decodeHeader_reject {bs : List Byte} {r : Reject} (h : decode .header bs = .reject r) :
    r = .badMagic ∨ ∃ n, r = .short n := by
  simp only [decode, decodeHeader] at h
  split at h
  · split at h
    · simp only [decodeFields] at h
      split at h <;> simp at h
      exact .inr ⟨_, h.symm⟩
    · simp at h; exact .inl h.symm
  · simp at h; exact .inr ⟨_, h.symm⟩

/-- A trailer fails by its bytes or by the end of the stream (R82). -/
theorem decodeTrailer_reject {bs : List Byte} {r : Reject} (h : decode .trailer bs = .reject r) :
    r = .badTrailer ∨ ∃ n, r = .short n := by
  simp only [decode, decodeTrailer] at h
  split_ifs at h <;> simp at h
  · exact .inr ⟨_, h.symm⟩
  · exact .inl h.symm

/-- Where each failure can happen: BadMagic at Decode's header, BadTrailer at Decode's trailer, StreamExhausted at every read
(R140, R141, R145). -/
theorem State.Reads.reject_cases {s : State} {site : Site} {r : Reject} (h : s.Reads site)
    (hd : decode site s.ahead = .reject r) :
    (r = .badMagic ∧ s.phase = .hdr ∧ s.mode = .decode) ∨ (r = .badTrailer ∧ s.phase = .trl ∧ s.mode = .decode) ∨
    ∃ n, r = .short n := by
  cases site with
  | header => exact (decodeHeader_reject hd).elim (fun hr => .inl ⟨hr, h⟩) (fun hr => .inr (.inr hr))
  | trailer => exact (decodeTrailer_reject hd).elim (fun hr => .inr (.inl ⟨hr, h⟩)) (fun hr => .inr (.inr hr))
  | chunk => exact .inr (.inr (decode_pixel_reject_short (by simp) (by simp) hd))
  | raw3 => exact .inr (.inr (decode_pixel_reject_short (by simp) (by simp) hd))
  | raw4 => exact .inr (.inr (decode_pixel_reject_short (by simp) (by simp) hd))

/-! The phase a pixel step leaves. -/

/-- PHASE is PIX or TRL, the two phases between the header step and the end of a command. -/
abbrev State.inLoop (s : State) : Prop := s.phase = .pix ∨ s.phase = .trl

theorem State.inLoop_of_ite {s : State} {c : Prop} [Decidable c] (h : s.phase = if c then .pix else .trl) :
    s.inLoop := by
  split at h
  · exact .inl h
  · exact .inr h

theorem State.enterPixels_inLoop (s : State) (w h : BitVec 32) : (s.enterPixels w h).inLoop :=
  State.inLoop_of_ite (s.enterPixels_phase w h)

theorem State.finishChunk_inLoop {s : State} (h : s.phase = .pix) : s.finishChunk.inLoop :=
  State.inLoop_of_ite (h ▸ s.finishChunk_phase)

theorem State.continueRun_inLoop {s : State} (h : s.phase = .pix) : s.continueRun.inLoop :=
  State.inLoop_of_ite (h ▸ s.continueRun_phase)

theorem State.encodePixel_inLoop {s : State} (h : s.phase = .pix) (p : Pixel) : (s.encodePixel p).inLoop :=
  State.inLoop_of_ite (h ▸ s.encodePixel_phase p)

end Sys2Proof.Machine

/-! PROOFS. Nothing survives a command (O56). `State.visible` keeps what a rule of a running command may still read; every
operation commutes with it, so two states that look the same stay so. -/

namespace Sys2Proof.Machine

/-- What a rule of a running command may read from the header step on. The other five fields (SUCCESS, CAUSE, the recorded
position, the host's moves, the counter of free values) are set to fixed values. -/
def State.visible (s : State) : State :=
  { s with success := false, cause := .none, failPos := 0, pending := [], freeIdx := 0 }

/-! Each operation of a running command commutes with `visible`. -/

@[simp] theorem State.consume_visible (s : State) (n : Nat) : (s.consume n).visible = s.visible.consume n := rfl
@[simp] theorem State.setPrev_visible (s : State) (p : Pixel) : (s.setPrev p).visible = s.visible.setPrev p := rfl
@[simp] theorem State.setRun_visible (s : State) (v : BitVec 6) : (s.setRun v).visible = s.visible.setRun v := rfl
@[simp] theorem State.setPxi_visible (s : State) (v : BitVec 64) : (s.setPxi v).visible = s.visible.setPxi v := rfl
@[simp] theorem State.setNpix_visible (s : State) (v : BitVec 64) : (s.setNpix v).visible = s.visible.setNpix v := rfl
@[simp] theorem State.setPhase_visible (s : State) (p : Phase) : (s.setPhase p).visible = s.visible.setPhase p := rfl
@[simp] theorem State.remember_visible (s : State) (p : Pixel) : (s.remember p).visible = s.visible.remember p := rfl
@[simp] theorem State.emit_visible (s : State) (i : Instr) : (s.emit i).visible = s.visible.emit i := rfl
@[simp] theorem State.emitRun_visible (s : State) : s.emitRun.visible = s.visible.emitRun := rfl

@[simp] theorem State.finish_visible (s : State) (c : Cause) (p : Phase) :
    (s.finish c p).visible = s.visible.setPhase p := rfl

@[simp] theorem State.emitPixel_visible (s : State) : s.emitPixel.visible = s.visible.emitPixel :=
  apply_ite State.visible _ _ _

@[simp] theorem State.loopTest_visible (s : State) : s.loopTest.visible = s.visible.loopTest :=
  apply_ite State.visible _ _ _

@[simp] theorem State.endPixel_visible (s : State) : s.endPixel.visible = s.visible.endPixel :=
  (s.setPxi (s.pxi + 1)).loopTest_visible

@[simp] theorem State.finishChunk_visible (s : State) : s.finishChunk.visible = s.visible.finishChunk := by
  simp only [State.finishChunk, State.endPixel_visible, State.emitPixel_visible, State.remember_visible]; rfl

@[simp] theorem State.continueRun_visible (s : State) : s.continueRun.visible = s.visible.continueRun := by
  simp only [State.continueRun, State.endPixel_visible, State.emitPixel_visible, State.setRun_visible]; rfl

@[simp] theorem State.countRun_visible (s : State) : s.countRun.visible = s.visible.countRun :=
  apply_ite State.visible _ _ _

@[simp] theorem State.flushRun_visible (s : State) : s.flushRun.visible = s.visible.flushRun :=
  apply_ite State.visible _ _ _

@[simp] theorem State.codePixel_visible (s : State) (p : Pixel) : (s.codePixel p).visible = s.visible.codePixel p :=
  apply_ite State.visible _ _ _

@[simp] theorem State.selectOpcode_visible (s : State) (p : Pixel) :
    (s.selectOpcode p).visible = s.visible.selectOpcode p := by
  have h := apply_ite State.visible (p = s.prev) s.countRun (s.flushRun.codePixel p)
  rwa [State.countRun_visible, State.codePixel_visible, State.flushRun_visible] at h

@[simp] theorem State.encodePixel_visible (s : State) (p : Pixel) :
    (s.encodePixel p).visible = s.visible.encodePixel p := by
  simp only [State.encodePixel, State.endPixel_visible, State.setPrev_visible, State.selectOpcode_visible]

/-- The header step overwrites NPIX, so what NPIX held does not show. -/
theorem State.enterPixels_visible (s : State) (w h : BitVec 32) :
    (s.enterPixels w h).visible = ((s.setNpix 0).visible).enterPixels w h :=
  ((s.setNpix (pixelCount w h)).setPhase .pix).loopTest_visible

theorem chunkPixel_visible (s : State) (i : Instr) : chunkPixel s.visible i = chunkPixel s i := by
  cases i <;> rfl

theorem chunkRun_visible (s : State) (i : Instr) : chunkRun s.visible i = chunkRun s i := by
  cases i <;> rfl

/-! What looks the same is the same command. -/

/-- After the header step the agreement of two commands is equality of what is visible. -/
theorem sameCommand_iff_visible {s t : State} (h : s.phase ≠ .hdr) : SameCommand s t ↔ t.visible = s.visible := by
  simp only [SameCommand, State.visible, State.mk.injEq]
  tauto

/-- Before it, the parameters of Decode and NPIX may differ. -/
theorem SameCommand.visible_setParams {s t : State} (h : SameCommand s t) (w ht : BitVec 32) (c k : Byte) :
    ((t.setParams w ht c k).setNpix 0).visible = ((s.setParams w ht c k).setNpix 0).visible := by
  obtain ⟨hph, hm, ⟨hprev, hhist, hrun⟩, hpxi, hin, hipos, hout, hopos, -, -⟩ := h
  simp [State.visible, State.setParams, State.setNpix, *]

theorem SameCommand.ahead {s t : State} (h : SameCommand s t) : t.ahead = s.ahead := by
  obtain ⟨-, -, -, -, hin, hipos, -⟩ := h
  rw [State.ahead, State.ahead, hin, hipos]

theorem SameCommand.atRaw {s t : State} (h : SameCommand s t) (hr : s.atRaw) : t.atRaw ∧ t.channels = s.channels := by
  obtain ⟨hph, hm, -, hpxi, -, -, -, -, hpar, hnpix⟩ := h
  obtain ⟨h1, h2, h3⟩ := hr
  have hne : s.phase ≠ .hdr := by simp [h1]
  obtain ⟨-, -, hc, -⟩ := hpar (.inl hne)
  exact ⟨⟨hph.trans h1, hm.trans h2, by rwa [hpxi, hnpix hne]⟩, hc⟩

theorem SameCommand.atContinuation {s t : State} (h : SameCommand s t) (hr : s.atContinuation) : t.atContinuation := by
  obtain ⟨hph, hm, ⟨-, -, hrun⟩, hpxi, -, -, -, -, -, hnpix⟩ := h
  obtain ⟨h1, h2, h3, h4⟩ := hr
  exact ⟨hph.trans h1, hm.trans h2, by rwa [hpxi, hnpix (by simp [h1])], hrun ▸ h4⟩

/-- Which record is read next is the same in both. -/
theorem SameCommand.reads {s t : State} (h : SameCommand s t) {site : Site} (hr : s.Reads site) : t.Reads site := by
  have ⟨hph, hm, ⟨_, _, hrun⟩, hpxi, _, _, _, _, _, hnpix⟩ := h
  cases site with
  | header => exact ⟨hph.trans hr.1, hm.trans hr.2⟩
  | trailer => exact ⟨hph.trans hr.1, hm.trans hr.2⟩
  | chunk =>
    obtain ⟨h1, h2, h3, h4⟩ := hr
    exact ⟨hph.trans h1, hm.trans h2, by rwa [hpxi, hnpix (by simp [h1])], hrun.trans h4⟩
  | raw3 =>
    obtain ⟨h1, h2⟩ := hr
    obtain ⟨ht, hc⟩ := h.atRaw h1
    exact ⟨ht, hc ▸ h2⟩
  | raw4 =>
    obtain ⟨h1, h2⟩ := hr
    obtain ⟨ht, hc⟩ := h.atRaw h1
    exact ⟨ht, hc.trans h2⟩

/-! One step of each. -/

/-- What two blocks show alike after a step of the same command: PHASE and OUT, all of the command while it runs, and at its
end the status and, unless the magic was wrong, the results (R165). -/
def SameOutcome (s t : State) : Prop :=
  t.phase = s.phase ∧ t.output = s.output ∧ (s.running → SameCommand s t) ∧
  (s.phase = .done → t.success = s.success ∧ t.cause = s.cause ∧ (s.cause ≠ .badMagic → t.results = s.results))

/-- A step that stays in the pixel loop. -/
theorem SameOutcome.of_inLoop {s t : State} (hs : s.inLoop) (h : t.visible = s.visible) : SameOutcome s t := by
  have hne : s.phase ≠ .hdr := by rcases hs with hs | hs <;> simp [hs]
  have hnd : s.phase ≠ .done := by rcases hs with hs | hs <;> simp [hs]
  have hc := (sameCommand_iff_visible hne).2 h
  have ⟨hph, _, _, _, _, _, hout, _⟩ := hc
  exact ⟨hph, hout, fun _ => hc, fun hd => absurd hd hnd⟩

/-- A step that ends the command after the header. -/
theorem SameOutcome.of_finish {s t : State} (h : t.visible = s.visible) (c : Cause) :
    SameOutcome (s.finish c .done) (t.finish c .done) := by
  simp only [State.visible, State.mk.injEq] at h
  simp [SameOutcome, State.running, State.results, h]

/-- A failure of the same read. -/
theorem SameOutcome.of_raise {s t : State} (h : SameCommand s t) {site : Site} (hr : s.Reads site) {r : Reject}
    (hd : decode site s.ahead = .reject r) : SameOutcome (raise r s) (raise r t) := by
  have ⟨_, _, _, _, _, _, hout, _⟩ := h
  rcases hr.reject_cases hd with ⟨rfl, -, -⟩ | ⟨rfl, hph, -⟩ | ⟨n, rfl⟩
  · simp [SameOutcome, raise, State.running, hout]
  · have hv := (sameCommand_iff_visible (by simp [hph])).1 h
    exact .of_finish (by simp [hv]) _
  · simp [SameOutcome, raise, State.running, hout]

/-- A step of one block has its counterpart in the other. -/
theorem StepsTo.sameOutcome {s t s' : State} (hs : s.running) (h : SameCommand s t) (hst : StepsTo s s') :
    ∃ t', StepsTo t t' ∧ SameOutcome s' t' := by
  have ⟨hph, hm, _, hpxi, _, _, _, _, hpar, hnpix⟩ := h
  have looks : s.phase ≠ .hdr → t.visible = s.visible := fun hne => (sameCommand_iff_visible hne).1 h
  cases hst with
  | waits hw _ => exact absurd hs (State.ended_not_running (hw.imp id .inl))
  | host he => exact absurd hs (State.ended_not_running he)
  | fails site hr r hd => exact ⟨_, .fails site (h.reads hr) r (h.ahead ▸ hd), .of_raise h hr hd⟩
  | headerWritten hp he =>
    refine ⟨_, .headerWritten (hph.trans hp) (hm.trans he), .of_inLoop (State.enterPixels_inLoop ..) ?_⟩
    obtain ⟨hw, hh, hc, hk⟩ := hpar (.inr he)
    have ht : t.setParams s.width s.height s.channels s.colorspace = t := by rw [← hw, ← hh, ← hc, ← hk]; rfl
    have hv := congrArg (State.emit · (.header s.width s.height s.channels s.colorspace))
      (h.visible_setParams s.width s.height s.channels s.colorspace)
    rw [ht] at hv
    rw [hw, hh, hc, hk, State.enterPixels_visible, State.enterPixels_visible]
    exact congrArg (State.enterPixels · s.width s.height) hv
  | headerRead hp he w ht c k rest hd =>
    refine ⟨_, .headerRead (hph.trans hp) (hm.trans he) w ht c k rest (h.ahead ▸ hd),
      .of_inLoop (State.enterPixels_inLoop ..) ?_⟩
    have hv := congrArg (State.consume · 14) (h.visible_setParams w ht c k)
    rw [State.enterPixels_visible, State.enterPixels_visible]
    exact congrArg (State.enterPixels · w ht) hv
  | chunk hc i rest hd hi hw =>
    have hv := looks (by simp [hc.1])
    refine ⟨_, .chunk (h.reads (site := .chunk) hc) i rest (h.ahead ▸ hd) hi hw,
      .of_inLoop (State.finishChunk_inLoop (by simp [hc.1])) ?_⟩
    have hp : chunkPixel t i = chunkPixel s i := by rw [← chunkPixel_visible, hv, chunkPixel_visible]
    have hrun : chunkRun t i = chunkRun s i := by rw [← chunkRun_visible, hv, chunkRun_visible]
    simp [hv, hp, hrun]
  | continues hc =>
    have hv := looks (by simp [hc.1])
    exact ⟨_, .continues (h.atContinuation hc), .of_inLoop (State.continueRun_inLoop hc.1) (by simp [hv])⟩
  | raw hr i rest hd p hi ha =>
    have hv := looks (by simp [hr.1])
    obtain ⟨ht, hc⟩ := h.atRaw hr
    have hsite : t.rawSite = s.rawSite := by rw [State.rawSite, State.rawSite, hc]
    refine ⟨_, .raw ht i rest (by rw [hsite, h.ahead, hd]) p (hc ▸ hi) (hc ▸ ha),
      .of_inLoop (State.encodePixel_inLoop (by simp [hr.1]) p) ?_⟩
    simp [hv, hc]
  | leaves hp hl =>
    have hv := looks (by simp [hp])
    exact ⟨_, .leaves (hph.trans hp) (by rwa [hpxi, hnpix (by simp [hp])]), .of_inLoop (.inr rfl) (by simp [hv])⟩
  | trailerWritten hp he =>
    have hv := looks (by simp [hp])
    exact ⟨_, .trailerWritten (hph.trans hp) (hm.trans he), .of_finish (by simp [hv]) _⟩
  | trailerRead hp he rest hd =>
    have hv := looks (by simp [hp])
    exact ⟨_, .trailerRead (hph.trans hp) (hm.trans he) rest (h.ahead ▸ hd), .of_finish (by simp [hv]) _⟩

/-! The start. -/

theorem State.startCommand_running (s : State) (m : Mode) (bs : List Byte) : (s.startCommand m bs).running := .inl rfl

/-- The command start sets all a rule may read but the parameters (R25, R162). -/
theorem State.startCommand_sameCommand {s t : State} {m : Mode} (h : m = .encode → SameParams s t) (bs : List Byte) :
    SameCommand (s.startCommand m bs) (t.startCommand m bs) := by
  refine ⟨rfl, rfl, ⟨rfl, rfl, rfl⟩, rfl, rfl, rfl, rfl, rfl, fun hc => ?_, fun hne => absurd rfl hne⟩
  exact hc.elim (fun hne => absurd rfl hne) h

/-- Settles O56: the command start overwrites everything a rule may read, and each step depends on what is visible only. -/
theorem nothingSurvivesACommand : Obligations.NothingSurvivesACommand := by
  unfold Obligations.NothingSurvivesACommand
  constructor
  · intro s t s' t' m q r hs ht hps hpt hm hss htt
    rw [step_host hs hps] at hss
    rw [step_host ht hpt] at htt
    cases hss
    cases htt
    obtain ⟨bs, ⟨rfl, hpar⟩ | rfl⟩ := hm
    · exact ⟨State.startCommand_running _ _ bs, State.startCommand_sameCommand (m := .encode) (fun _ => hpar) bs⟩
    · exact ⟨State.startCommand_running _ _ bs, State.startCommand_sameCommand (m := .decode) (fun h => nomatch h) bs⟩
  · intro s t s' hs h hst
    obtain ⟨t', ht', hout⟩ := (step_cases hst).sameOutcome hs h
    exact ⟨t', ht'.step, hout⟩

end Sys2Proof.Machine

/-! PROOFS. The streams (O48, O54): a step of a running command reads bytes that are there and appends to OUT. -/

namespace Sys2Proof.Machine

/-- The encoder's cascade reads nothing and appends to OUT. -/
theorem State.selectOpcode_moved (s : State) (p : Pixel) : ∃ bs, Moved s (s.selectOpcode p) 0 bs := by
  rcases s.selectOpcode_cases p with ⟨-, -, h⟩ | ⟨-, -, h⟩ | ⟨-, -, h⟩ | ⟨-, -, h⟩ <;> rw [h]
  · exact ⟨[], by simp [Moved]⟩
  · exact ⟨encode (.run (s.run + 1).toNat), by simp [Moved, encode]⟩
  · exact ⟨flushBytes s.run ++ encode (.index (slotOf p)),
      by simp [Moved, State.flushRun_output, State.flushRun_opos, Nat.add_assoc]⟩
  · exact ⟨flushBytes s.run ++ encode (codeMiss p s.prev),
      by simp [Moved, State.flushRun_output, State.flushRun_opos, Nat.add_assoc]⟩

theorem State.encodePixel_moved (s : State) (p : Pixel) : ∃ bs, Moved s (s.encodePixel p) 0 bs := by
  obtain ⟨bs, h⟩ := s.selectOpcode_moved p
  exact ⟨bs, by simpa [Moved, State.encodePixel] using h⟩

theorem RawPixelOf.length_eq {i : Instr} {p : Pixel} {n : Nat} (h : RawPixelOf i p n) : i.length = n := by
  rcases h with ⟨rfl, rfl⟩ | ⟨rfl, -, rfl⟩ <;> rfl

/-- A failure consumes what was read and leaves IN and OUT as they are (R142, R143, R145). -/
theorem raise_moved (r : Reject) (s : State) :
    (raise r s).input = s.input ∧ Moved s (raise r s) (Reject.taken r) [] := by
  cases r <;> simp [raise, Reject.taken, Moved]

/-- While a command runs a step leaves IN, reads n bytes that are there and appends to OUT (R19, R31, R32). -/
theorem StepsTo.moved {s t : State} (hs : s.running) (h : StepsTo s t) :
    t.input = s.input ∧ ∃ n bs, n ≤ s.ahead.length ∧ Moved s t n bs := by
  cases h with
  | waits hw _ => exact absurd hs (State.ended_not_running (hw.imp id .inl))
  | host he => exact absurd hs (State.ended_not_running he)
  | fails site hr r hd =>
    obtain ⟨hin, hmv⟩ := raise_moved r s
    exact ⟨hin, Reject.taken r, [], decode_reject_taken hd, hmv⟩
  | headerWritten =>
    exact ⟨by simp, 0, encode (.header s.width s.height s.channels s.colorspace), by simp, by simp [Moved]⟩
  | headerRead hp hm w ht c k rest hd =>
    have hlen : s.ahead.length = 14 + rest.length := decode_ok_length hd
    exact ⟨by simp, 14, [], by omega, by simp [Moved]⟩
  | chunk hc i rest hd hi hw =>
    have hlen := decode_ok_length hd
    exact ⟨by simp, i.length, rawBytes s.channels (chunkPixel s i), by omega,
      by simp [Moved, State.finishChunk_output, State.finishChunk_opos]⟩
  | continues =>
    exact ⟨by simp, 0, rawBytes s.channels s.prev, by simp,
      by simp [Moved, State.continueRun_output, State.continueRun_opos]⟩
  | raw hr i rest hd p hi ha =>
    have hlen := decode_ok_length hd
    rw [hi.length_eq] at hlen
    obtain ⟨bs, hmv⟩ := (s.consume (bytesPerPixel s.channels)).encodePixel_moved p
    exact ⟨by simp, bytesPerPixel s.channels, bs, by omega, by simpa [Moved] using hmv⟩
  | leaves => exact ⟨by simp, 0, [], by simp, by simp [Moved]⟩
  | trailerWritten => exact ⟨by simp, 0, encode .trailer, by simp, by simp [Moved]⟩
  | trailerRead hp hm rest hd =>
    have hlen : s.ahead.length = 8 + rest.length := decode_ok_length hd
    exact ⟨by simp, 8, [], by omega, by simp [Moved]⟩

/-- A read of bytes that are there and a write keep the streams' form. -/
theorem State.StreamsWf.of_moved {s t : State} (h : s.StreamsWf) (hin : t.input = s.input) {n : Nat} {bs : List Byte}
    (hn : n ≤ s.ahead.length) (hmv : Moved s t n bs) : t.StreamsWf := by
  obtain ⟨hi, ho⟩ := h
  obtain ⟨hipos, hout, hopos⟩ := hmv
  rw [State.ahead_length] at hn
  exact ⟨by rw [hipos, hin]; omega, by rw [hopos, hout, ho, List.length_append]⟩

/-- A host move writes parameters or opens both streams anew. -/
theorem State.hostMove_streamsWf {s : State} (h : s.StreamsWf) (m : HostMove) : (s.hostMove m).StreamsWf := by
  cases m with
  | writeWidth v => exact h
  | writeHeight v => exact h
  | writeChannels v => exact h
  | writeColorspace v => exact h
  | startEncode raw => exact ⟨Nat.zero_le _, rfl⟩
  | startDecode stream => exact ⟨Nat.zero_le _, rfl⟩

/-- Settles O48: a running command moves the streams as `StepsTo.moved` says; between commands only a start touches them. -/
theorem stepKeepsStreams : Obligations.StepKeepsStreams := by
  unfold Obligations.StepKeepsStreams
  intro s t hwf h
  rcases s.running_or_ended with hs | hs
  · obtain ⟨hin, n, bs, hn, hmv⟩ := (step_cases h).moved hs
    exact hwf.of_moved hin hn hmv
  · rcases step_ended_cases hs h with rfl | ⟨m, q, rfl⟩
    · exact hwf
    · exact State.hostMove_streamsWf (s := s.setPending q) hwf m

/-- Settles O54: the streams move as `StepsTo.moved` says. -/
theorem streamsOnlyGrow : Obligations.StreamsOnlyGrow := by
  unfold Obligations.StreamsOnlyGrow
  intro s t hs h
  obtain ⟨hin, n, bs, -, hipos, hout, -⟩ := (step_cases h).moved hs
  exact ⟨hin, by omega, bs, hout⟩

end Sys2Proof.Machine

/-! PROOFS. The host's writes (O12). -/

namespace Sys2Proof.Machine

/-- Settles O12: the step is the host's move, a write of one parameter. -/
theorem hostWritesParameters : Obligations.HostWritesParameters := by
  unfold Obligations.HostWritesParameters
  intro s q hs
  exact ⟨fun v hp => step_host hs hp, fun v hp => step_host hs hp, fun v hp => step_host hs hp,
    fun v hp => step_host hs hp⟩

end Sys2Proof.Machine

/-! PROOFS. The pixel loop (O50). -/

namespace Sys2Proof.Machine

/-- LoopWf speaks of running commands only. -/
theorem State.loopWf_of_ended {s : State} (h : s.ended) : s.LoopWf := by
  rcases h with h | h | h <;> simp [State.LoopWf, h]

theorem raise_ended (r : Reject) (s : State) : (raise r s).ended := by
  cases r <;> simp [raise, State.ended]

/-- A host move stays between commands, or starts one at PXI = 0 (R25). -/
theorem State.hostMove_loopWf {s : State} (h : s.ended) (m : HostMove) : (s.hostMove m).LoopWf := by
  cases m with
  | writeWidth v => exact State.loopWf_of_ended h
  | writeHeight v => exact State.loopWf_of_ended h
  | writeChannels v => exact State.loopWf_of_ended h
  | writeColorspace v => exact State.loopWf_of_ended h
  | startEncode raw => simp [State.LoopWf, State.hostMove, State.startEncode, State.startCommand]
  | startDecode stream => simp [State.LoopWf, State.hostMove, State.startDecode, State.startCommand]

/-- The loop test puts a state with PXI at most NPIX in PIX below NPIX, in TRL at NPIX (R72, R80). -/
theorem State.loopWf_of_loopTest {s : State} (hn : s.npix.toNat = s.width.toNat * s.height.toNat) (hle : s.pxi ≤ s.npix)
    (hp : s.phase = if s.pxi < s.npix then .pix else .trl) : s.LoopWf := by
  split at hp
  next hl => exact ⟨by simp [hp], fun _ => ⟨hn, hl⟩, by simp [hp]⟩
  next hl => exact ⟨by simp [hp], by simp [hp], fun _ => ⟨hn, BitVec.le_antisymm hle (BitVec.not_lt.1 hl)⟩⟩

/-- The header step (R71, R79): PXI is 0, NPIX the product of these parameters. -/
theorem State.enterPixels_loopWf {s : State} (h : s.pxi = 0) {w ht : BitVec 32} (hw : s.width = w) (hh : s.height = ht) :
    (s.enterPixels w ht).LoopWf :=
  State.loopWf_of_loopTest (by simp [pixelCount_toNat, hw, hh]) (by simp [h, BitVec.le_def])
    (by simp [State.enterPixels_phase])

theorem State.finishChunk_nextPixel (s : State) : NextPixel s s.finishChunk :=
  ⟨by simp, s.finishChunk_phase, by simp, by simp⟩

theorem State.continueRun_nextPixel (s : State) : NextPixel s s.continueRun :=
  ⟨by simp, s.continueRun_phase, by simp, by simp⟩

theorem State.encodePixel_nextPixel (s : State) (p : Pixel) : NextPixel s (s.encodePixel p) :=
  ⟨by simp, s.encodePixel_phase p, by simp, by simp⟩

/-- A pixel step: PXI was below NPIX, so it does not pass it (R20). -/
theorem State.LoopWf.nextPixel {s t : State} (h : s.LoopWf) (hp : s.phase = .pix) (hn : NextPixel s t)
    (hpar : SameParams s t) : t.LoopWf := by
  obtain ⟨-, hpix, -⟩ := h
  obtain ⟨hprod, hlt⟩ := hpix hp
  obtain ⟨hpxi, hph, -, hnpix⟩ := hn
  obtain ⟨hw, hh, -, -⟩ := hpar
  refine State.loopWf_of_loopTest (by rw [hnpix, hw, hh, hprod]) ?_ (by rw [hph, hpxi, hnpix, hp])
  rw [hpxi, hnpix]
  bv_omega

/-- A step of a running command keeps the loop. -/
theorem StepsTo.loopWf {s t : State} (hs : s.running) (hwf : s.LoopWf) (h : StepsTo s t) : t.LoopWf := by
  have ⟨hhdr, hpix, _⟩ := hwf
  cases h with
  | waits hw _ => exact absurd hs (State.ended_not_running (hw.imp id .inl))
  | host he => exact absurd hs (State.ended_not_running he)
  | fails site hr r hd => exact State.loopWf_of_ended (raise_ended r s)
  | headerWritten hp => exact State.enterPixels_loopWf (by simp [hhdr hp]) (by simp) (by simp)
  | headerRead hp => exact State.enterPixels_loopWf (by simp [hhdr hp]) (by simp) (by simp)
  | chunk hc => exact hwf.nextPixel hc.1 (State.finishChunk_nextPixel _) (by simp [SameParams])
  | continues hc => exact hwf.nextPixel hc.1 (State.continueRun_nextPixel _) (by simp [SameParams])
  | raw hr i rest hd p =>
    exact hwf.nextPixel hr.1 ((s.consume (bytesPerPixel s.channels)).encodePixel_nextPixel p) (by simp [SameParams])
  | leaves hp hl =>
    obtain ⟨-, hlt⟩ := hpix hp
    exact absurd hlt hl
  | trailerWritten => exact State.loopWf_of_ended (.inr (.inl rfl))
  | trailerRead => exact State.loopWf_of_ended (.inr (.inl rfl))

/-- Settles O50: by `StepsTo.loopWf` while a command runs; between commands only a start matters, and it sets PXI to 0. -/
theorem stepKeepsLoop : Obligations.StepKeepsLoop := by
  unfold Obligations.StepKeepsLoop
  intro s t hwf h
  rcases s.running_or_ended with hs | hs
  · exact (step_cases h).loopWf hs hwf
  · rcases step_ended_cases hs h with rfl | ⟨m, q, rfl⟩
    · exact hwf
    · exact State.hostMove_loopWf (s := s.setPending q) hs m

end Sys2Proof.Machine

/-! PROOFS. The status registers (O51). -/

namespace Sys2Proof.Machine

/-- StatusWf speaks of DONE and FAULT only. -/
theorem State.statusWf_of_running {s : State} (h : s.running) : s.StatusWf := by
  rcases h with h | h | h <;> simp [State.StatusWf, h]

/-- A command that ends well (R76, R82). -/
theorem State.finish_statusWf (s : State) : (s.finish .none .done).StatusWf := by
  simp [State.StatusWf, successOf]

/-- A failure: the wrong magic and the wrong trailer are found in Decode only, the position recorded is IPOS after the reads
(R140 to R145). -/
theorem raise_statusWf {s : State} {site : Site} {r : Reject} (h : s.Reads site)
    (hd : decode site s.ahead = .reject r) : (raise r s).StatusWf := by
  rcases h.reject_cases hd with ⟨rfl, -, hm⟩ | ⟨rfl, -, hm⟩ | ⟨n, rfl⟩
  · simp [State.StatusWf, raise, successOf, hm]
  · simp [State.StatusWf, raise, successOf, hm]
  · simp [State.StatusWf, raise, successOf]

/-- A host move leaves the status registers, or starts a command. -/
theorem State.hostMove_statusWf {s : State} (h : s.StatusWf) (m : HostMove) : (s.hostMove m).StatusWf := by
  cases m with
  | writeWidth v => exact h
  | writeHeight v => exact h
  | writeChannels v => exact h
  | writeColorspace v => exact h
  | startEncode raw => exact State.statusWf_of_running (State.startCommand_running _ _ raw)
  | startDecode stream => exact State.statusWf_of_running (State.startCommand_running _ _ stream)

/-- A step of a running command goes on, ends well or fails. -/
theorem StepsTo.statusWf {s t : State} (hs : s.running) (h : StepsTo s t) : t.StatusWf := by
  cases h with
  | waits hw _ => exact absurd hs (State.ended_not_running (hw.imp id .inl))
  | host he => exact absurd hs (State.ended_not_running he)
  | fails site hr r hd => exact raise_statusWf hr hd
  | headerWritten => exact State.statusWf_of_running (.inr (State.enterPixels_inLoop ..))
  | headerRead => exact State.statusWf_of_running (.inr (State.enterPixels_inLoop ..))
  | chunk hc => exact State.statusWf_of_running (.inr (State.finishChunk_inLoop hc.1))
  | continues hc => exact State.statusWf_of_running (.inr (State.continueRun_inLoop hc.1))
  | raw hr i rest hd p => exact State.statusWf_of_running (.inr (State.encodePixel_inLoop (by simp [hr.1]) p))
  | leaves => exact State.statusWf_of_running (.inr (.inr rfl))
  | trailerWritten => exact State.finish_statusWf _
  | trailerRead => exact State.finish_statusWf _

/-- Settles O51: by `StepsTo.statusWf` while a command runs; between commands the host writes no status register. -/
theorem stepKeepsStatus : Obligations.StepKeepsStatus := by
  unfold Obligations.StepKeepsStatus
  intro s t hwf h
  rcases s.running_or_ended with hs | hs
  · exact (step_cases h).statusWf hs
  · rcases step_ended_cases hs h with rfl | ⟨m, q, rfl⟩
    · exact hwf
    · exact State.hostMove_statusWf (s := s.setPending q) hwf m

end Sys2Proof.Machine

/-! PROOFS. The stream positions (O53): a header step moves 14 bytes on the encoded side, a pixel step BPP bytes on the raw
side and at most five on the encoded side. -/

namespace Sys2Proof.Machine

/-- PositionsWf speaks of running commands only. -/
theorem State.positionsWf_of_ended {s : State} (h : s.ended) : s.PositionsWf := by
  rcases h with h | h | h <;> simp [State.PositionsWf, h]

/-- PositionsWf in the pixel loop of Encode (R39, R40, R75). -/
theorem State.positionsWf_iff_encode {s : State} (hp : s.inLoop) (hm : s.mode = .encode) :
    s.PositionsWf ↔ s.ipos = s.pxi.toNat * bytesPerPixel s.channels ∧ 14 ≤ s.opos ∧
      s.opos + s.run.toNat ≤ 14 + 5 * s.pxi.toNat := by
  rcases hp with hp | hp <;> simp [State.PositionsWf, hp, hm]

/-- PositionsWf in the pixel loop of Decode (R41, R80). -/
theorem State.positionsWf_iff_decode {s : State} (hp : s.inLoop) (hm : s.mode = .decode) :
    s.PositionsWf ↔ s.opos = s.pxi.toNat * bytesPerPixel s.channels ∧ 14 ≤ s.ipos := by
  rcases hp with hp | hp <;> simp [State.PositionsWf, hp, hm]

/-- A host move stays between commands, or starts one with both cursors, RUN and PXI at 0 (R25). -/
theorem State.hostMove_positionsWf {s : State} (h : s.ended) (m : HostMove) : (s.hostMove m).PositionsWf := by
  cases m with
  | writeWidth v => exact State.positionsWf_of_ended h
  | writeHeight v => exact State.positionsWf_of_ended h
  | writeChannels v => exact State.positionsWf_of_ended h
  | writeColorspace v => exact State.positionsWf_of_ended h
  | startEncode raw => simp [State.PositionsWf, State.hostMove, State.startEncode, State.startCommand]
  | startDecode stream => simp [State.PositionsWf, State.hostMove, State.startDecode, State.startCommand]

/-- PXI + 1 does not wrap while PXI is below NPIX (R20). -/
theorem pxi_succ_toNat {pxi npix : BitVec 64} (h : pxi < npix) : (pxi + 1).toNat = pxi.toNat + 1 := by
  bv_omega

/-! How much an encoder pixel step writes. -/

/-- The flush writes no more bytes than the run has pixels (R103). -/
theorem flushBytes_length_le (run : BitVec 6) : (flushBytes run).length ≤ run.toNat := by
  unfold flushBytes
  split
  next h => simp [h]
  next h => exact run_pos h

/-- The longest chunk is RGBA's five bytes (R50). -/
theorem encode_codeMiss_length_le (p q : Pixel) : (encode (codeMiss p q)).length ≤ 5 := by
  rcases codeMiss_cases p q with ⟨-, h⟩ | ⟨-, -, h⟩ | ⟨-, -, -, h⟩ | ⟨-, -, -, h⟩ <;> simp [h, encode]

/-- A pixel adds at most five to OPOS and the pending run together: a counted pixel adds one, a flush turns a run into one
byte, a chunk has at most five (R75). -/
theorem State.selectOpcode_opos_add_run_le (s : State) (p : Pixel) :
    (s.selectOpcode p).opos + (s.selectOpcode p).run.toNat ≤ s.opos + s.run.toNat + 5 := by
  have hflush := flushBytes_length_le s.run
  rcases s.selectOpcode_cases p with ⟨-, -, h⟩ | ⟨-, -, h⟩ | ⟨-, -, h⟩ | ⟨-, -, h⟩ <;> rw [h]
  · have : (s.run + 1).toNat ≤ s.run.toNat + 1 := by bv_omega
    simp only [State.setRun_opos, State.setRun_run]
    omega
  · simp
    omega
  · simp [State.flushRun_opos, State.flushRun_run, encode]
    omega
  · have hmiss := encode_codeMiss_length_le p s.prev
    simp [State.flushRun_opos, State.flushRun_run]
    omega

theorem State.encodePixel_opos_add_run_le (s : State) (p : Pixel) :
    (s.encodePixel p).opos + (s.encodePixel p).run.toNat ≤ s.opos + s.run.toNat + 5 := by
  simpa [State.encodePixel] using s.selectOpcode_opos_add_run_le p

/-! The invariant over one step. -/

/-- A pixel step of Encode: BPP bytes read, OPOS and the pending run up by at most five. -/
theorem State.PositionsWf.encodePixel {s : State} (hwf : s.PositionsWf) (h : s.atRaw) (p : Pixel) :
    ((s.consume (bytesPerPixel s.channels)).encodePixel p).PositionsWf := by
  obtain ⟨hp, hm, hl⟩ := h
  obtain ⟨hipos, hlo, hhi⟩ := (State.positionsWf_iff_encode (.inl hp) hm).1 hwf
  obtain ⟨bs, -, -, hopos⟩ := (s.consume (bytesPerPixel s.channels)).encodePixel_moved p
  have hle := (s.consume (bytesPerPixel s.channels)).encodePixel_opos_add_run_le p
  simp only [State.consume_opos, State.consume_run] at hopos hle
  rw [State.positionsWf_iff_encode (State.encodePixel_inLoop (by simp [hp]) p) (by simp [hm])]
  simp only [State.encodePixel_ipos, State.encodePixel_pxi, State.encodePixel_channels, State.consume_ipos,
    State.consume_pxi, State.consume_channels, pxi_succ_toNat hl]
  exact ⟨by rw [hipos, Nat.add_one_mul], by omega, by omega⟩

/-- A pixel step of Decode writes BPP bytes and does not move IPOS back. -/
theorem State.PositionsWf.decodedPixel {s t : State} (hwf : s.PositionsWf) (hp : s.phase = .pix) (hm : s.mode = .decode)
    (hl : s.pxi < s.npix) (hn : NextPixel s t) (hc : t.channels = s.channels) (hi : s.ipos ≤ t.ipos)
    (ho : t.opos = s.opos + bytesPerPixel s.channels) : t.PositionsWf := by
  obtain ⟨hopos, hipos⟩ := (State.positionsWf_iff_decode (.inl hp) hm).1 hwf
  obtain ⟨hpxi, hph, hmode, -⟩ := hn
  rw [State.positionsWf_iff_decode (State.inLoop_of_ite (hp ▸ hph)) (hmode.trans hm)]
  exact ⟨by rw [ho, hopos, hpxi, hc, pxi_succ_toNat hl, Nat.add_one_mul], by omega⟩

/-- A step of a running command keeps the positions. -/
theorem StepsTo.positionsWf {s t : State} (hs : s.running) (hwf : s.PositionsWf) (h : StepsTo s t) : t.PositionsWf := by
  have ⟨hhdr, hloop⟩ := hwf
  cases h with
  | waits hw _ => exact absurd hs (State.ended_not_running (hw.imp id .inl))
  | host he => exact absurd hs (State.ended_not_running he)
  | fails site hr r hd => exact State.positionsWf_of_ended (raise_ended r s)
  | headerWritten hp hm =>
    obtain ⟨hipos, hopos, hrun, hpxi⟩ := hhdr hp
    rw [State.positionsWf_iff_encode (State.enterPixels_inLoop ..) (by simp [hm])]
    simp [hipos, hopos, hrun, hpxi, encode, Config.magic, be32Bytes]
  | headerRead hp hm =>
    obtain ⟨hipos, hopos, hrun, hpxi⟩ := hhdr hp
    rw [State.positionsWf_iff_decode (State.enterPixels_inLoop ..) (by simp [hm])]
    simp [hipos, hopos, hpxi]
  | chunk hc i =>
    obtain ⟨hp, hm, hl, -⟩ := hc
    exact hwf.decodedPixel hp hm hl (State.finishChunk_nextPixel _) (by simp) (by simp)
      (by simp [State.finishChunk_opos, rawBytes_length])
  | continues hc =>
    obtain ⟨hp, hm, hl, -⟩ := hc
    exact hwf.decodedPixel hp hm hl s.continueRun_nextPixel (by simp) (by simp)
      (by simp [State.continueRun_opos, rawBytes_length])
  | raw hr i rest hd p => exact hwf.encodePixel hr p
  | leaves hp => exact ⟨nofun, fun _ => hloop (.inl hp)⟩
  | trailerWritten => exact State.positionsWf_of_ended (.inr (.inl rfl))
  | trailerRead => exact State.positionsWf_of_ended (.inr (.inl rfl))

/-- Settles O53: by `StepsTo.positionsWf` while a command runs; between commands only a start matters, and it sets both
cursors, RUN and PXI to 0. -/
theorem stepKeepsPositions : Obligations.StepKeepsPositions := by
  unfold Obligations.StepKeepsPositions
  intro s t hwf h
  rcases s.running_or_ended with hs | hs
  · exact (step_cases h).positionsWf hs hwf
  · rcases step_ended_cases hs h with rfl | ⟨m, q, rfl⟩
    · exact hwf
    · exact State.hostMove_positionsWf (s := s.setPending q) hs m

end Sys2Proof.Machine

/-! PROOFS. No read-ahead (O57): a record that was read, and a magic or a trailer found wrong, is decided by the bytes it takes;
and no operation of a running command looks at IN. -/

namespace Sys2Proof.Machine

/-! A read is decided by the bytes it takes. -/

/-- A chunk (R54, R55): its tag selects the arm, and no arm looks past its own operand bytes. -/
theorem decodeChunk_take_append {bs rest : List Byte} {i : Instr} (h : decodeChunk bs = .ok i rest) (more : List Byte) :
    decodeChunk (bs.take i.length ++ more) = .ok i more := by
  cases bs with
  | nil => simp [decodeChunk] at h
  | cons t tl =>
    simp only [decodeChunk] at h
    split_ifs at h with hrgb hrgba hindex hdiff hluma
    · split at h <;> cases h
      simp [decodeChunk, Instr.length, hrgb]
    · split at h <;> cases h
      simp [decodeChunk, Instr.length, hrgba]
    · cases h
      simp_all [decodeChunk, Instr.length]
    · cases h
      simp_all [decodeChunk, Instr.length]
    · split at h <;> cases h
      simp_all [decodeChunk, Instr.length]
    · cases h
      simp_all [decodeChunk, Instr.length]

/-- A header (R78, R79): the magic and ten bytes after it. -/
theorem decodeHeader_take_append {bs rest : List Byte} {i : Instr} (h : decodeHeader bs = .ok i rest)
    (more : List Byte) : decodeHeader (bs.take i.length ++ more) = .ok i more := by
  simp only [decodeHeader] at h
  split at h
  · split at h
    · simp only [decodeFields] at h
      split at h <;> cases h
      simp_all [decodeHeader, decodeFields, Instr.length]
    · cases h
  · cases h

/-- A trailer (R82): all eight bytes, right or wrong, decide. -/
theorem decodeTrailer_take_append {bs : List Byte} (h : 8 ≤ bs.length) (more : List Byte) :
    decodeTrailer (bs.take 8 ++ more) =
      if bs.take 8 = Config.trailer then .ok .trailer more else .reject .badTrailer := by
  simp [decodeTrailer, h]

/-- A record that was read is read again from its own bytes, with anything after them (R41). -/
theorem decode_take_append {site : Site} {bs rest : List Byte} {i : Instr} (h : decode site bs = .ok i rest)
    (more : List Byte) : decode site (bs.take i.length ++ more) = .ok i more := by
  cases site with
  | header => exact decodeHeader_take_append h more
  | chunk => exact decodeChunk_take_append h more
  | trailer =>
    have hlen := decode_ok_length h
    obtain rfl := decodeTrailer_ok h
    simp only [Instr.length] at hlen ⊢
    simp only [decode, decodeTrailer] at h
    split_ifs at h with hshort htr
    rw [decode, decodeTrailer_take_append (by omega), if_pos htr]
  | raw3 =>
    simp only [decode, decodeRaw3] at h
    split at h <;> cases h
    simp [decode, decodeRaw3, Instr.length]
  | raw4 =>
    simp only [decode, decodeRaw4] at h
    split at h <;> cases h
    simp [decode, decodeRaw4, Instr.length]

/-- A wrong magic or trailer is found in the bytes that were read, with anything after them (R143, R145). -/
theorem decode_reject_take_append {site : Site} {bs : List Byte} {r : Reject} (h : decode site bs = .reject r)
    (hr : ∀ n, r ≠ .short n) (more : List Byte) : decode site (bs.take (Reject.taken r) ++ more) = .reject r := by
  cases site with
  | header =>
    obtain rfl := (decodeHeader_reject h).resolve_right fun ⟨n, hn⟩ => hr n hn
    simp only [decode, decodeHeader] at h
    split at h
    · split at h
      · simp only [decodeFields] at h
        split at h <;> cases h
      next hmagic => simp [decode, decodeHeader, Reject.taken, hmagic]
    · cases h
  | trailer =>
    obtain rfl := (decodeTrailer_reject h).resolve_right fun ⟨n, hn⟩ => hr n hn
    simp only [decode, decodeTrailer] at h
    split_ifs at h with hshort htr
    · cases h
    · rw [decode, Reject.taken, decodeTrailer_take_append (by omega), if_neg htr]
  | chunk => exact (decode_pixel_reject_short (by simp) (by simp) h).elim fun n hn => absurd hn (hr n)
  | raw3 => exact (decode_pixel_reject_short (by simp) (by simp) h).elim fun n hn => absurd hn (hr n)
  | raw4 => exact (decode_pixel_reject_short (by simp) (by simp) h).elim fun n hn => absurd hn (hr n)

/-! Each operation of a running command commutes with a replacement of IN. -/

/-- The same state over another input stream, IPOS as it was. -/
def State.withInput (s : State) (bs : List Byte) : State := { s with input := bs }

section
variable (s : State) (bs : List Byte)

theorem State.emitPixel_withInput : s.emitPixel.withInput bs = (s.withInput bs).emitPixel :=
  apply_ite (State.withInput · bs) _ _ _

theorem State.loopTest_withInput : s.loopTest.withInput bs = (s.withInput bs).loopTest :=
  apply_ite (State.withInput · bs) _ _ _

theorem State.endPixel_withInput : s.endPixel.withInput bs = (s.withInput bs).endPixel :=
  (s.setPxi (s.pxi + 1)).loopTest_withInput bs

theorem State.finishChunk_withInput : s.finishChunk.withInput bs = (s.withInput bs).finishChunk := by
  simp only [State.finishChunk, State.endPixel_withInput, State.emitPixel_withInput]; rfl

theorem State.continueRun_withInput : s.continueRun.withInput bs = (s.withInput bs).continueRun := by
  simp only [State.continueRun, State.endPixel_withInput, State.emitPixel_withInput]; rfl

theorem State.enterPixels_withInput (w h : BitVec 32) :
    (s.enterPixels w h).withInput bs = (s.withInput bs).enterPixels w h :=
  ((s.setNpix (pixelCount w h)).setPhase .pix).loopTest_withInput bs

theorem State.countRun_withInput : s.countRun.withInput bs = (s.withInput bs).countRun :=
  apply_ite (State.withInput · bs) _ _ _

theorem State.flushRun_withInput : s.flushRun.withInput bs = (s.withInput bs).flushRun :=
  apply_ite (State.withInput · bs) _ _ _

theorem State.codePixel_withInput (p : Pixel) : (s.codePixel p).withInput bs = (s.withInput bs).codePixel p :=
  apply_ite (State.withInput · bs) _ _ _

theorem State.selectOpcode_withInput (p : Pixel) : (s.selectOpcode p).withInput bs = (s.withInput bs).selectOpcode p := by
  have h := apply_ite (State.withInput · bs) (p = s.prev) s.countRun (s.flushRun.codePixel p)
  rwa [State.countRun_withInput, State.codePixel_withInput, State.flushRun_withInput] at h

theorem State.encodePixel_withInput (p : Pixel) : (s.encodePixel p).withInput bs = (s.withInput bs).encodePixel p := by
  have h := State.endPixel_withInput ((s.selectOpcode p).setPrev p) bs
  have hsel := congrArg (State.setPrev · p) (s.selectOpcode_withInput bs p)
  exact h.trans (congrArg State.endPixel hsel)

theorem raise_withInput (r : Reject) : (raise r s).withInput bs = raise r (s.withInput bs) := by
  cases r <;> rfl

theorem chunkPixel_withInput (i : Instr) : chunkPixel (s.withInput bs) i = chunkPixel s i := by
  cases i <;> rfl

theorem chunkRun_withInput (i : Instr) : chunkRun (s.withInput bs) i = chunkRun s i := by
  cases i <;> rfl

end

theorem State.Reads.withInput {s : State} {site : Site} (h : s.Reads site) (bs : List Byte) :
    (s.withInput bs).Reads site := by
  cases site <;> exact h

/-! One step on both streams. -/

/-- A step that does not run out of input is the same step over any stream that holds the bytes it reads. -/
theorem StepsTo.withInput {s t : State} {bs more : List Byte} {n : Nat} (hs : s.running) (hf : t.phase ≠ .fault)
    (h : StepsTo s t) (hn : t.ipos = s.ipos + n) (hbs : (s.withInput bs).ahead = s.ahead.take n ++ more) :
    StepsTo (s.withInput bs) (t.withInput bs) := by
  have again : ∀ {site i rest}, decode site s.ahead = .ok i rest → n = i.length →
      decode site (s.withInput bs).ahead = .ok i more := by
    intro site i rest hd hl
    rw [hbs, hl]
    exact decode_take_append hd more
  cases h with
  | waits hw _ => exact absurd hs (State.ended_not_running (hw.imp id .inl))
  | host he => exact absurd hs (State.ended_not_running he)
  | fails site hr r hd =>
    have hshort : ∀ n, r ≠ .short n := fun n hn => hf (by rw [hn]; rfl)
    obtain ⟨-, hipos, -⟩ := raise_moved r s
    obtain rfl : n = Reject.taken r := by omega
    rw [raise_withInput]
    exact .fails site (hr.withInput bs) r (hbs ▸ decode_reject_take_append hd hshort more)
  | headerWritten hp hm =>
    rw [State.enterPixels_withInput]
    exact .headerWritten hp hm
  | headerRead hp hm w ht c k rest hd =>
    rw [State.enterPixels_withInput]
    have hd' := again hd (by simpa [Instr.length] using hn.symm)
    exact .headerRead (s := s.withInput bs) hp hm w ht c k more hd'
  | chunk hc i rest hd hi hw =>
    have hd' := again hd (by simpa using hn.symm)
    rw [State.finishChunk_withInput, ← chunkPixel_withInput s bs, ← chunkRun_withInput s bs]
    exact .chunk (s := s.withInput bs) hc i more hd' hi hw
  | continues hc =>
    rw [State.continueRun_withInput]
    exact .continues hc
  | raw hr i rest hd p hi ha =>
    rw [State.encodePixel_withInput]
    exact .raw (s := s.withInput bs) hr i more (again hd (by simpa [hi.length_eq] using hn.symm)) p hi ha
  | leaves hp hl => exact .leaves hp hl
  | trailerWritten hp hm => exact .trailerWritten hp hm
  | trailerRead hp hm rest hd =>
    exact .trailerRead (s := s.withInput bs) hp hm more (again hd (by simpa [Instr.length] using hn.symm))

/-- The bytes ahead when IN keeps its first n unread bytes and anything follows. -/
theorem State.ahead_withInput_take {s : State} {n : Nat} (hi : s.ipos ≤ s.input.length) (more : List Byte) :
    (s.withInput (s.input.take (s.ipos + n) ++ more)).ahead = s.ahead.take n ++ more := by
  have hle : s.ipos ≤ (s.input.take (s.ipos + n)).length := by simp [hi]
  calc (s.input.take (s.ipos + n) ++ more).drop s.ipos
      = (s.input.take (s.ipos + n)).drop s.ipos ++ more := List.drop_append_of_le_length hle
    _ = s.ahead.take n ++ more := by rw [List.drop_take, Nat.add_sub_cancel_left, State.ahead]

/-- Settles O57: the step consumes n bytes (`StepsTo.moved`), and over a stream that holds them it is the same step. -/
theorem noReadAhead : Obligations.NoReadAhead := by
  unfold Obligations.NoReadAhead
  intro s t more hs hwf h hf
  obtain ⟨hi, -⟩ := hwf
  obtain ⟨-, n, -, -, hipos, -⟩ := (step_cases h).moved hs
  have hahead : (s.withInput (s.input.take t.ipos ++ more)).ahead = s.ahead.take n ++ more := by
    rw [hipos]
    exact State.ahead_withInput_take hi more
  exact ((step_cases h).withInput hs hf hipos hahead).step

end Sys2Proof.Machine

/-! PROOFS. The encoding (O1 to O6): one equation for each arm of the chunk decoder, stated over the tag's number; the bytes of
the packed chunks as numbers; and from the two that reading and writing a record are inverse to each other. -/

namespace Sys2Proof.Machine

/-! The tag map (R55). -/

/-- The six ranges of the tag cover every byte (R55). -/
theorem tag_cases (t : Byte) :
    t.toNat ≤ 0x3f ∨ (0x40 ≤ t.toNat ∧ t.toNat ≤ 0x7f) ∨ (0x80 ≤ t.toNat ∧ t.toNat ≤ 0xbf) ∨
    (0xc0 ≤ t.toNat ∧ t.toNat ≤ 0xfd) ∨ t = 0xfe ∨ t = 0xff := by
  have hlt := t.isLt
  have hliteral : t.toNat ≤ 0xfd ∨ t.toNat = 0xfe ∨ t.toNat = 0xff := by omega
  rcases hliteral with h | h | h
  · omega
  · simp [BitVec.eq_of_toNat_eq (y := (0xfe : Byte)) h]
  · simp [BitVec.eq_of_toNat_eq (y := (0xff : Byte)) h]

/-- The two 8-bit tags lie above the ranges of the 2-bit tags (R54). -/
theorem ne_literalTags {t : Byte} (h : t.toNat ≤ 0xfd) : t ≠ 0xfe ∧ t ≠ 0xff := by
  constructor <;> rintro rfl <;> simp at h

/-- The 2-bit tag is the quarter of the byte range the tag lies in (R54). -/
theorem bits_top (t : Byte) : bits t 6 2 = t.toNat / 64 := by
  have := t.isLt
  simp only [bits]
  omega

/-- The high nibble (R60). -/
theorem bits_highNibble (o : Byte) : bits o 4 4 = o.toNat / 16 := by
  have := o.isLt
  simp only [bits]
  omega

/-- A field at the low end of its byte (R58 to R61). -/
theorem bits_low (t : Byte) (n : Nat) : bits t 0 n = t.toNat % 2 ^ n := by
  simp [bits]

/-- 00..3f (R58). -/
theorem decode_chunk_index {t : Byte} (h : t.toNat ≤ 0x3f) (rest : List Byte) :
    decode .chunk (t :: rest) = .ok (.index (BitVec.ofNat 6 t.toNat)) rest := by
  obtain ⟨hfe, hff⟩ := ne_literalTags (t := t) (by omega)
  have htop : t.toNat / 64 = 0 := by omega
  have hfield : t.toNat % 2 ^ 6 = t.toNat := by omega
  simp only [decode, decodeChunk, if_neg hfe, if_neg hff, bits_top, htop, bits_low, hfield]
  rfl

/-- 40..7f (R59). -/
theorem decode_chunk_diff {t : Byte} (hlo : 0x40 ≤ t.toNat) (hhi : t.toNat ≤ 0x7f) (rest : List Byte) :
    decode .chunk (t :: rest) =
      .ok (.diff ((t.toNat / 16 % 4 : Nat) - 2) ((t.toNat / 4 % 4 : Nat) - 2) ((t.toNat % 4 : Nat) - 2)) rest := by
  obtain ⟨hfe, hff⟩ := ne_literalTags (t := t) (by omega)
  have htop : t.toNat / 64 = 1 := by omega
  simp only [decode, decodeChunk, if_neg hfe, if_neg hff, bits_top, htop, bits_low]
  rfl

/-- 80..bf with its second byte (R60). -/
theorem decode_chunk_luma {t : Byte} (hlo : 0x80 ≤ t.toNat) (hhi : t.toNat ≤ 0xbf) (o : Byte) (rest : List Byte) :
    decode .chunk (t :: o :: rest) =
      .ok (.luma ((t.toNat % 64 : Nat) - 32) ((o.toNat / 16 : Nat) - 8) ((o.toNat % 16 : Nat) - 8)) rest := by
  obtain ⟨hfe, hff⟩ := ne_literalTags (t := t) (by omega)
  have htop : t.toNat / 64 = 2 := by omega
  simp only [decode, decodeChunk, if_neg hfe, if_neg hff, bits_top, htop, bits_low, bits_highNibble]
  rfl

/-- 80..bf at the end of the stream (R60, R142). -/
theorem decode_chunk_luma_short {t : Byte} (hlo : 0x80 ≤ t.toNat) (hhi : t.toNat ≤ 0xbf) :
    decode .chunk [t] = .reject (.short 1) := by
  obtain ⟨hfe, hff⟩ := ne_literalTags (t := t) (by omega)
  have htop : t.toNat / 64 = 2 := by omega
  simp only [decode, decodeChunk, if_neg hfe, if_neg hff, bits_top, htop]
  rfl

/-- c0..fd (R61). -/
theorem decode_chunk_run {t : Byte} (hlo : 0xc0 ≤ t.toNat) (hhi : t.toNat ≤ 0xfd) (rest : List Byte) :
    decode .chunk (t :: rest) = .ok (.run (t.toNat - 0xc0 + 1)) rest := by
  obtain ⟨hfe, hff⟩ := ne_literalTags hhi
  have htop : t.toNat / 64 = 3 := by omega
  have hfield : t.toNat % 2 ^ 6 = t.toNat - 0xc0 := by omega
  simp only [decode, decodeChunk, if_neg hfe, if_neg hff, bits_top, htop, bits_low, hfield]
  rfl

/-- fe with its three operand bytes (R56). -/
theorem decode_chunk_rgb (r g b : Byte) (rest : List Byte) :
    decode .chunk (0xfe :: r :: g :: b :: rest) = .ok (.rgb r g b) rest :=
  rfl

/-- ff with its four operand bytes (R57). -/
theorem decode_chunk_rgba (r g b a : Byte) (rest : List Byte) :
    decode .chunk (0xff :: r :: g :: b :: a :: rest) = .ok (.rgba r g b a) rest :=
  rfl

/-- fe without its operand bytes (R56, R142). -/
theorem decode_chunk_rgb_short {rest : List Byte} (h : rest.length < 3) :
    decode .chunk (0xfe :: rest) = .reject (.short (1 + rest.length)) := by
  match rest, h with
  | [], _ | [_], _ | [_, _], _ => rfl

/-- ff without its operand bytes (R57, R142). -/
theorem decode_chunk_rgba_short {rest : List Byte} (h : rest.length < 4) :
    decode .chunk (0xff :: rest) = .reject (.short (1 + rest.length)) := by
  match rest, h with
  | [], _ | [_], _ | [_, _], _ | [_, _, _], _ => rfl

/-- Settles O3: the six arms. -/
theorem tagMapSelectsOneArm : Obligations.TagMapSelectsOneArm := by
  unfold Obligations.TagMapSelectsOneArm
  intro t o1 o2 o3 o4 rest
  refine ⟨fun h => decode_chunk_index h _, fun h => decode_chunk_diff h.1 h.2 _, fun h => decode_chunk_luma h.1 h.2 _ _,
    fun h => decode_chunk_run h.1 h.2 _, ?_, ?_⟩
  · rintro rfl
    exact decode_chunk_rgb o1 o2 o3 _
  · rintro rfl
    exact decode_chunk_rgba o1 o2 o3 o4 _

/-- With four bytes behind it every tag has its operands (R63). -/
theorem decode_chunk_accepts (t : Byte) {rest : List Byte} (h : 4 ≤ rest.length) :
    ∃ i rest', decode .chunk (t :: rest) = .ok i rest' := by
  match rest, h with
  | o1 :: o2 :: o3 :: o4 :: rest, _ =>
    rcases tag_cases t with h | h | h | h | rfl | rfl
    · exact ⟨_, _, decode_chunk_index h _⟩
    · exact ⟨_, _, decode_chunk_diff h.1 h.2 _⟩
    · exact ⟨_, _, decode_chunk_luma h.1 h.2 _ _⟩
    · exact ⟨_, _, decode_chunk_run h.1 h.2 _⟩
    · exact ⟨_, _, decode_chunk_rgb o1 o2 o3 _⟩
    · exact ⟨_, _, decode_chunk_rgba o1 o2 o3 o4 _⟩


/-- With too few bytes behind it a tag is rejected at the end of the stream, the bytes there were taken (R63, R142). -/
theorem decode_chunk_reject {bs : List Byte} {r : Reject} (h : decode .chunk bs = .reject r) :
    r = .short bs.length ∧ bs.length < 5 := by
  cases bs with
  | nil => cases h; simp
  | cons t rest =>
    have hlen : rest.length < 4 := by
      by_contra hge
      obtain ⟨i, rest', hok⟩ := decode_chunk_accepts t (rest := rest) (by omega)
      rw [hok] at h
      cases h
    refine ⟨?_, by simp; omega⟩
    rcases tag_cases t with ht | ht | ht | ht | rfl | rfl
    · rw [decode_chunk_index ht] at h; cases h
    · rw [decode_chunk_diff ht.1 ht.2] at h; cases h
    · cases rest with
      | nil => rw [decode_chunk_luma_short ht.1 ht.2] at h; cases h; rfl
      | cons o rest => rw [decode_chunk_luma ht.1 ht.2] at h; cases h
    · rw [decode_chunk_run ht.1 ht.2] at h; cases h
    · match rest with
      | o1 :: o2 :: o3 :: rest => rw [decode_chunk_rgb] at h; cases h
      | [] | [_] | [_, _] => rw [decode_chunk_rgb_short (by simp)] at h; cases h; rfl
    · rw [decode_chunk_rgba_short hlen] at h; cases h; simp [Nat.add_comm]

/-- Settles O6: every content is accepted, and a rejection is the end of the stream. -/
theorem chunkDecodingIsTotal : Obligations.ChunkDecodingIsTotal := by
  unfold Obligations.ChunkDecodingIsTotal
  exact ⟨fun t _ h => decode_chunk_accepts t h, fun _ _ h => decode_chunk_reject h⟩

/-! The bytes of the packed chunks as numbers (R62). -/

/-- A number of a byte's range is the number of its byte. -/
theorem toNat_ofInt_byte {x : Int} (h0 : 0 ≤ x) (h : x < 256) : ((BitVec.ofInt 8 x).toNat : Int) = x := by
  rw [BitVec.toNat_ofInt]
  omega

/-- DIFF (R59). -/
theorem encode_diff_toNat {dr dg db : Int} (h : (Instr.diff dr dg db).wf = true) :
    ∃ b : Byte, encode (.diff dr dg db) = [b] ∧ (b.toNat : Int) = 0x40 + (dr + 2) * 16 + (dg + 2) * 4 + (db + 2) := by
  simp only [Instr.wf, Bool.and_eq_true, decide_eq_true_eq] at h
  exact ⟨_, rfl, toNat_ofInt_byte (by omega) (by omega)⟩

/-- LUMA (R60). -/
theorem encode_luma_toNat {dg drDg dbDg : Int} (h : (Instr.luma dg drDg dbDg).wf = true) :
    ∃ b1 b2 : Byte, encode (.luma dg drDg dbDg) = [b1, b2] ∧ (b1.toNat : Int) = 0x80 + (dg + 32) ∧
      (b2.toNat : Int) = (drDg + 8) * 16 + (dbDg + 8) := by
  simp only [Instr.wf, Bool.and_eq_true, decide_eq_true_eq] at h
  exact ⟨_, _, rfl, toNat_ofInt_byte (by omega) (by omega), toNat_ofInt_byte (by omega) (by omega)⟩

/-- RUN (R61). -/
theorem encode_run_toNat {n : Nat} (h : (Instr.run n).wf = true) :
    ∃ b : Byte, encode (.run n) = [b] ∧ b.toNat = 0xc0 + (n - 1) := by
  simp only [Instr.wf, decide_eq_true_eq] at h
  exact ⟨_, rfl, by rw [BitVec.toNat_ofNat]; omega⟩

/-- INDEX (R58). -/
theorem encode_index_toNat (i : BitVec 6) : ∃ b : Byte, encode (.index i) = [b] ∧ b.toNat = i.toNat :=
  ⟨_, rfl, by rw [BitVec.toNat_ofNat]; omega⟩

/-- Settles O4: the four packed formats. -/
theorem packedChunkBytes : Obligations.PackedChunkBytes := by
  unfold Obligations.PackedChunkBytes
  exact ⟨fun _ _ _ => encode_diff_toNat, fun _ _ _ => encode_luma_toNat, fun _ => encode_run_toNat, encode_index_toNat⟩

/-! Big-endian words (R36). -/

/-- A word read from its four bytes. -/
theorem be32_be32Bytes (v : BitVec 32) :
    be32 (BitVec.ofNat 8 (v.toNat / 2 ^ 24)) (BitVec.ofNat 8 (v.toNat / 2 ^ 16)) (BitVec.ofNat 8 (v.toNat / 2 ^ 8))
      (BitVec.ofNat 8 v.toNat) = v := by
  apply BitVec.eq_of_toNat_eq
  have := v.isLt
  simp only [be32, BitVec.toNat_ofNat]
  omega

/-- The four bytes of a word that was read from them. -/
theorem be32Bytes_be32 (b0 b1 b2 b3 : Byte) : be32Bytes (be32 b0 b1 b2 b3) = [b0, b1, b2, b3] := by
  have := b0.isLt
  have := b1.isLt
  have := b2.isLt
  have := b3.isLt
  simp only [be32Bytes, be32, List.cons.injEq, and_true]
  refine ⟨?_, ?_, ?_, ?_⟩ <;> apply BitVec.eq_of_toNat_eq <;> simp only [BitVec.toNat_ofNat] <;> omega

/-! Reading what was written. -/

/-- A chunk (R56 to R61): its first byte lies in its own range of the tag map, and its fields give the operands back. -/
theorem decode_encode_chunk {i : Instr} (hi : i.isChunk = true) (h : i.wf = true) (rest : List Byte) :
    decode .chunk (encode i ++ rest) = .ok i rest := by
  cases i with
  | rgb r g b => exact decode_chunk_rgb r g b rest
  | rgba r g b a => exact decode_chunk_rgba r g b a rest
  | index k =>
    obtain ⟨b, he, hb⟩ := encode_index_toNat k
    rw [he, List.singleton_append, decode_chunk_index (by omega), hb, BitVec.ofNat_toNat, BitVec.setWidth_eq]
  | diff dr dg db =>
    obtain ⟨b, he, hb⟩ := encode_diff_toNat h
    simp only [Instr.wf, Bool.and_eq_true, decide_eq_true_eq] at h
    rw [he, List.singleton_append, decode_chunk_diff (by omega) (by omega)]
    congr 2 <;> omega
  | luma dg drDg dbDg =>
    obtain ⟨b1, b2, he, hb1, hb2⟩ := encode_luma_toNat h
    simp only [Instr.wf, Bool.and_eq_true, decide_eq_true_eq] at h
    rw [he, List.cons_append, List.singleton_append, decode_chunk_luma (by omega) (by omega)]
    congr 2 <;> omega
  | run n =>
    obtain ⟨b, he, hb⟩ := encode_run_toNat h
    simp only [Instr.wf, decide_eq_true_eq] at h
    rw [he, List.singleton_append, decode_chunk_run (by omega) (by omega)]
    congr 2; omega
  | header | trailer | pixel3 | pixel4 => simp [Instr.isChunk] at hi

/-- The header (R51): behind its magic stand the two words and the two bytes. -/
theorem decode_encode_header (w h : BitVec 32) (c s : Byte) (rest : List Byte) :
    decode .header (encode (.header w h c s) ++ rest) = .ok (.header w h c s) rest := by
  simp only [encode, Config.magic, be32Bytes, List.cons_append, List.nil_append, decode, decodeHeader, if_true,
    decodeFields, be32_be32Bytes]

/-- Every record at its own site (R50). -/
theorem decode_encode {i : Instr} (h : i.wf = true) (rest : List Byte) :
    decode i.site (encode i ++ rest) = .ok i rest := by
  cases i with
  | rgb | rgba | index | diff | luma | run => exact decode_encode_chunk rfl h rest
  | header w ht c s => exact decode_encode_header w ht c s rest
  | trailer => simp [Instr.site, encode, decode, decodeTrailer, Config.trailer]
  | pixel3 r g b => rfl
  | pixel4 r g b a => rfl

/-- Settles O1. -/
theorem decodeOfEncode : Obligations.DecodeOfEncode := by
  unfold Obligations.DecodeOfEncode
  exact fun _ rest h => decode_encode h rest

/-! Writing what was read. -/

/-- A chunk that was read (R55 to R61): the operands are the fields of its bytes, so the packed bytes are these again. -/
theorem encode_of_decode_chunk {bs rest : List Byte} {i : Instr} (h : decode .chunk bs = .ok i rest) :
    bs = encode i ++ rest := by
  obtain ⟨-, hwf⟩ := decodeChunk_ok h
  cases bs with
  | nil => cases h
  | cons t tl =>
    rcases tag_cases t with ht | ht | ht | ht | rfl | rfl
    · rw [decode_chunk_index ht] at h
      cases h
      obtain ⟨b, he, hb⟩ := encode_index_toNat (BitVec.ofNat 6 t.toNat)
      have hbt : b = t := BitVec.eq_of_toNat_eq (by rw [hb, BitVec.toNat_ofNat]; omega)
      rw [he, hbt, List.singleton_append]
    · rw [decode_chunk_diff ht.1 ht.2] at h
      cases h
      obtain ⟨b, he, hb⟩ := encode_diff_toNat hwf
      have hbt : b = t := BitVec.eq_of_toNat_eq (by omega)
      rw [he, hbt, List.singleton_append]
    · cases tl with
      | nil => rw [decode_chunk_luma_short ht.1 ht.2] at h; cases h
      | cons o tl =>
        rw [decode_chunk_luma ht.1 ht.2] at h
        cases h
        obtain ⟨b1, b2, he, hb1, hb2⟩ := encode_luma_toNat hwf
        have hbt : b1 = t := BitVec.eq_of_toNat_eq (by omega)
        have hbo : b2 = o := BitVec.eq_of_toNat_eq (by omega)
        rw [he, hbt, hbo, List.cons_append, List.singleton_append]
    · rw [decode_chunk_run ht.1 ht.2] at h
      cases h
      obtain ⟨b, he, hb⟩ := encode_run_toNat hwf
      have hbt : b = t := BitVec.eq_of_toNat_eq (by omega)
      rw [he, hbt, List.singleton_append]
    · match tl with
      | r :: g :: b :: tl => rw [decode_chunk_rgb] at h; cases h; rfl
      | [] | [_] | [_, _] => rw [decode_chunk_rgb_short (by simp)] at h; cases h
    · match tl with
      | r :: g :: b :: a :: tl => rw [decode_chunk_rgba] at h; cases h; rfl
      | [] | [_] | [_, _] | [_, _, _] => rw [decode_chunk_rgba_short (by simp)] at h; cases h

/-- A header that was read: the magic, and the words of its bytes (R51, R78). -/
theorem encode_of_decode_header {bs rest : List Byte} {i : Instr} (h : decode .header bs = .ok i rest) :
    bs = encode i ++ rest := by
  simp only [decode, decodeHeader] at h
  split at h
  next m0 m1 m2 m3 tl =>
    split at h
    next hmagic =>
      simp only [decodeFields] at h
      split at h <;> cases h
      simp [encode, ← hmagic, be32Bytes_be32]
    · cases h
  · cases h

/-- Every record is spelled by the bytes it was read from only (R50, R63). -/
theorem encode_of_decode {site : Site} {bs rest : List Byte} {i : Instr} (h : decode site bs = .ok i rest) :
    bs = encode i ++ rest ∧ i.wf = true ∧ i.site = site := by
  cases site with
  | header =>
    obtain ⟨w, ht, c, k, rfl⟩ := decodeHeader_ok h
    exact ⟨encode_of_decode_header h, rfl, rfl⟩
  | chunk =>
    obtain ⟨hi, hwf⟩ := decodeChunk_ok h
    exact ⟨encode_of_decode_chunk h, hwf, by cases i <;> simp [Instr.isChunk] at hi <;> rfl⟩
  | trailer =>
    obtain rfl := decodeTrailer_ok h
    simp only [decode, decodeTrailer] at h
    split_ifs at h with hshort htr
    cases h
    exact ⟨by rw [encode, ← htr, List.take_append_drop], rfl, rfl⟩
  | raw3 =>
    simp only [decode, decodeRaw3] at h
    split at h <;> cases h
    exact ⟨rfl, rfl, rfl⟩
  | raw4 =>
    simp only [decode, decodeRaw4] at h
    split at h <;> cases h
    exact ⟨rfl, rfl, rfl⟩

/-- Settles O2. -/
theorem encodeOfDecode : Obligations.EncodeOfDecode := by
  unfold Obligations.EncodeOfDecode
  exact fun _ _ _ _ h => encode_of_decode h

/-- Settles O5: the sample words of the encoding tables, evaluated. -/
theorem sampleRecordsReadAndWritten : Obligations.SampleRecordsReadAndWritten := by
  unfold Obligations.SampleRecordsReadAndWritten
  decide

end Sys2Proof.Machine

/-! PROOFS. A whole Encode command (O55): the pixel loop of Encode as a relation, one raw pixel a step, which a stream that is
long enough takes to the trailer. -/

namespace Sys2Proof.Machine

/-! Runs. -/

theorem run_add_one {s t : State} (h : step s = .next t) (k : Nat) : core.run (k + 1) s = core.run k t := by
  have hs : core.step s = .next t := h
  simp only [Host.Core.run, hs]

theorem run_one {s t : State} (h : step s = .next t) : core.run 1 s = .next t := run_add_one h 0

/-! The pixel loop of Encode. -/

/-- The state after a pixel step of Encode that fetched p (R100, R101). -/
abbrev State.afterPixel (s : State) (p : Pixel) : State := (s.consume (bytesPerPixel s.channels)).encodePixel p

/-- k pixel steps of Encode lead from the first state to the second: each finds the raw bytes of a pixel at the cursor (R100). -/
inductive EncodesPixels : Nat → State → State → Prop
  | refl (s : State) : EncodesPixels 0 s s
  | pixel {k : Nat} {s t : State} (h : s.atRaw) (p : Pixel)
    (hp : s.ahead = rawBytes s.channels p ++ s.ahead.drop (bytesPerPixel s.channels))
    (hst : step s = .next (s.afterPixel p))
    (ht : EncodesPixels k (s.afterPixel p) t) : EncodesPixels (k + 1) s t

theorem EncodesPixels.run {k : Nat} {s t : State} (h : EncodesPixels k s t) (m : Nat) :
    core.run (k + m) s = core.run m t := by
  induction h with
  | refl s => rw [Nat.zero_add]
  | pixel _ _ _ hst _ ih => rw [Nat.add_right_comm, run_add_one hst, ih]

/-- What every pixel step of Encode keeps holds at the end of the loop. -/
theorem EncodesPixels.keeps {I : State → Prop}
    (hI : ∀ s p, I s → s.atRaw → I (s.afterPixel p)) {k : Nat} {s t : State}
    (h : EncodesPixels k s t) (hs : I s) : I t := by
  induction h with
  | refl s => exact hs
  | pixel hr p _ _ _ ih => exact ih (hI _ p hs hr)

theorem State.ahead_of_streams {s t : State} (hin : t.input = s.input) (hi : t.ipos = s.ipos) : t.ahead = s.ahead := by
  rw [State.ahead, State.ahead, hin, hi]

theorem State.afterPixel_ahead (s : State) (p : Pixel) :
    (s.afterPixel p).ahead = s.ahead.drop (bytesPerPixel s.channels) := by
  rw [← State.ahead_consume]
  exact State.ahead_of_streams (by simp) (by simp)

/-- Where BPP bytes are ahead, they are the raw bytes of a pixel, and the step codes it (R100, R101). -/
theorem step_raw {s : State} (h : s.atRaw) (hlen : bytesPerPixel s.channels ≤ s.ahead.length) :
    ∃ p, s.ahead = rawBytes s.channels p ++ s.ahead.drop (bytesPerPixel s.channels) ∧
      step s = .next (s.afterPixel p) := by
  have ⟨_, hm, _⟩ := h
  have hfetch := fun {i rest} => step_fetch_ok (i := i) (rest := rest) (nextMove_reads (State.reads_rawSite h))
  by_cases hc : s.channels = 4
  · simp only [State.afterPixel, bytesPerPixel, State.rawSite, rawBytes, if_pos hc] at hlen hfetch ⊢
    match hb : s.ahead, hlen with
    | r :: g :: b :: a :: rest, _ =>
      refine ⟨⟨r, g, b, a⟩, rfl, ?_⟩
      rw [hfetch (i := .pixel4 r g b a) (rest := rest) (by rw [hb]; rfl)]
      exact exec_raw (.inl ⟨rfl, rfl⟩) hm
  · simp only [State.afterPixel, bytesPerPixel, State.rawSite, rawBytes, if_neg hc] at hlen hfetch ⊢
    match hb : s.ahead, hlen with
    | r :: g :: b :: rest, _ =>
      refine ⟨⟨r, g, b, 255⟩, rfl, ?_⟩
      rw [hfetch (i := .pixel3 r g b) (rest := rest) (by rw [hb]; rfl)]
      exact exec_raw (.inr ⟨rfl, rfl, rfl⟩) hm

/-- The loop ends where PXI is NPIX, at the trailer (R72, R80). -/
theorem State.LoopWf.phase_trl {s : State} (h : s.LoopWf) (hp : s.inLoop) (hn : s.npix.toNat ≤ s.pxi.toNat) :
    s.phase = .trl := by
  obtain ⟨-, hpix, -⟩ := h
  refine hp.resolve_left fun hp => ?_
  obtain ⟨-, hlt⟩ := hpix hp
  omega

/-- Below NPIX the loop is at a pixel (R72, R80). -/
theorem State.LoopWf.phase_pix {s : State} (h : s.LoopWf) (hp : s.inLoop) (hn : s.pxi.toNat < s.npix.toNat) :
    s.phase = .pix := by
  obtain ⟨-, -, htrl⟩ := h
  refine hp.resolve_right fun hp => ?_
  obtain ⟨-, heq⟩ := htrl hp
  rw [heq] at hn
  omega

/-- With BPP bytes ahead for each pixel left, Encode codes them all and stands at the trailer (R72, R75). -/
theorem encodesPixels_to_trailer (k : Nat) {s : State} (hwf : s.LoopWf) (hp : s.inLoop) (hm : s.mode = .encode)
    (hk : s.pxi.toNat + k = s.npix.toNat) (hlen : k * bytesPerPixel s.channels ≤ s.ahead.length) :
    ∃ t, EncodesPixels k s t ∧ t.phase = .trl ∧ t.mode = .encode ∧ t.pxi = t.npix := by
  induction k generalizing s with
  | zero =>
    have hph := hwf.phase_trl hp (by omega)
    obtain ⟨-, -, htrl⟩ := hwf
    obtain ⟨-, hend⟩ := htrl hph
    exact ⟨s, .refl s, hph, hm, hend⟩
  | succ k ih =>
    have hph := hwf.phase_pix hp (by omega)
    have hl : s.pxi < s.npix := BitVec.lt_def.2 (by omega)
    rw [Nat.succ_mul] at hlen
    obtain ⟨p, hahead, hst⟩ := step_raw ⟨hph, hm, hl⟩ (by omega)
    have hlen' : k * bytesPerPixel s.channels ≤ s.ahead.length - bytesPerPixel s.channels := by omega
    have hloop := hwf.nextPixel hph (t := s.afterPixel p)
      (State.encodePixel_nextPixel _ p) (by simp [SameParams])
    obtain ⟨t, ht, hend⟩ := ih hloop (State.encodePixel_inLoop (by simp [hph]) p) (by simp [hm])
      (by simp only [State.encodePixel_pxi, State.consume_pxi, pxi_succ_toNat hl, State.encodePixel_npix,
        State.consume_npix]; omega)
      (by rw [State.afterPixel_ahead]; simpa using hlen')
    exact ⟨t, .pixel ⟨hph, hm, hl⟩ p hahead hst ht, hend⟩

/-- Each pixel step reads BPP bytes (R100). -/
theorem EncodesPixels.ahead {k : Nat} {s t : State} (h : EncodesPixels k s t) :
    t.ahead = s.ahead.drop (k * bytesPerPixel s.channels) := by
  induction h with
  | refl s => simp
  | pixel _ p _ _ _ ih =>
    rw [ih]
    simp [State.afterPixel_ahead, Nat.succ_mul, Nat.add_comm]

theorem EncodesPixels.frame {k : Nat} {s t : State} (h : EncodesPixels k s t) : SameParams s t ∧ t.npix = s.npix := by
  induction h with
  | refl s => simp [SameParams]
  | pixel _ p _ _ _ ih => simpa [SameParams] using ih

/-! The whole command. -/

/-- The state after the header step of Encode (R71). -/
def State.afterHeader (s : State) : State :=
  (s.emit (.header s.width s.height s.channels s.colorspace)).enterPixels s.width s.height

theorem State.afterHeader_ahead (s : State) : s.afterHeader.ahead = s.ahead :=
  State.ahead_of_streams (by simp [State.afterHeader]) (by simp [State.afterHeader])

/-- From the header step, a stream with BPP bytes for each pixel takes Encode through the loop to the trailer
(R71, R72, R75). -/
theorem encodes_from_header {s : State} (hp : s.phase = .hdr) (hm : s.mode = .encode) (hpxi : s.pxi = 0)
    (hlen : s.width.toNat * s.height.toNat * bytesPerPixel s.channels ≤ s.ahead.length) :
    step s = .next s.afterHeader ∧ ∃ t, EncodesPixels (s.width.toNat * s.height.toNat) s.afterHeader t ∧
      t.phase = .trl ∧ t.mode = .encode ∧ t.pxi = t.npix := by
  refine ⟨(StepsTo.headerWritten hp hm).step, ?_⟩
  refine encodesPixels_to_trailer _ (State.enterPixels_loopWf (by simp [hpxi]) (by simp) (by simp))
    (State.enterPixels_inLoop ..) (by simp [State.afterHeader, hm]) ?_
    (by rw [State.afterHeader_ahead]; simpa [State.afterHeader] using hlen)
  simp [State.afterHeader, hpxi, pixelCount_toNat]

/-- The steps of an Encode command after its start: the header, the pixels, the trailer (R176). -/
theorem run_encode {s t : State} {n : Nat} (hst : step s = .next s.afterHeader) (h : EncodesPixels n s.afterHeader t)
    (hp : t.phase = .trl) (hm : t.mode = .encode) :
    core.run (1 + n + 1) s = .next ((t.emit .trailer).finish .none .done) := by
  rw [Nat.add_assoc, Nat.add_comm 1, run_add_one hst, h.run, run_one (StepsTo.trailerWritten hp hm).step]

/-- Settles O55: the loop by `encodes_from_header`; the positions are the invariant PositionsWf at the trailer. -/
theorem encodeEndsInCountedSteps : Obligations.EncodeEndsInCountedSteps := by
  unfold Obligations.EncodeEndsInCountedSteps
  intro s hp hm hpos hlen
  have ⟨hhdr, _⟩ := hpos
  obtain ⟨hipos, -, -, hpxi⟩ := hhdr hp
  obtain ⟨hst, t, ht, htp, htm, hend⟩ := encodes_from_header hp hm hpxi (by rw [State.ahead_length, hipos]; exact hlen)
  have hwf : s.afterHeader.PositionsWf := (StepsTo.headerWritten hp hm).positionsWf (.inl hp) hpos
  have hwf' : t.PositionsWf := ht.keeps (fun _ p h hr => h.encodePixel hr p) hwf
  obtain ⟨hpar, hnpix⟩ := ht.frame
  have hpar' : SameParams s t := by simpa [SameParams, State.afterHeader] using hpar
  have hcount : t.npix.toNat = s.width.toNat * s.height.toNat := by simp [hnpix, State.afterHeader, pixelCount_toNat]
  obtain ⟨hi, hlo, hhi⟩ := (State.positionsWf_iff_encode (.inr htp) htm).1 hwf'
  rw [hend, hcount] at hi hhi
  refine ⟨_, run_encode hst ht htp htm, by simp, by simp [successOf], by simp, ?_, by simpa [SameParams] using hpar', ?_, ?_⟩
  · simpa [hpar'] using hi
  · change 22 ≤ t.opos + 8
    omega
  · change t.opos + 8 ≤ _
    omega

end Sys2Proof.Machine

/-! PROOFS. The round trip (O58). `Owes e bs` says of an encoder state e that any decoder in step with it which has bs ahead
delivers the raw bytes e has counted but not written out, and those e has not read yet. It holds at the trailer, and goes back
over each pixel step of the encoder: the decoder takes the chunks the step wrote. -/

namespace Sys2Proof.Machine

/-! What the encoder writes for a pixel, and what the decoder makes of it. -/

/-- Applying the delta gives the channel back (R97). -/
theorem applyDelta_delta (c q : Byte) : applyDelta q (delta c q) = c := by
  have hc := c.isLt
  have hq := q.isLt
  apply BitVec.eq_of_toNat_eq
  simp only [applyDelta, delta, sext8, wrap8, BitVec.toNat_ofInt, BitVec.toInt_ofInt, Int.bmod]
  split <;> omega

theorem applyDeltas_delta {p q : Pixel} (ha : p.a = q.a) :
    applyDeltas q (delta p.r q.r) (delta p.g q.g) (delta p.b q.b) = p := by
  simp [applyDeltas, applyDelta_delta, ← ha]

/-- The history gives this pixel back (R91). -/
abbrev State.Remembers (s : State) (p : Pixel) : Prop := s.lookup (slotOf p) = p

/-- The chunk i stands for the pixel p: a decoder with the encoder's PREV, which remembers at least what the encoder does,
resolves it to p and keeps its run count. -/
def Rebuilds (s : State) (p : Pixel) (i : Instr) : Prop :=
  i.isChunk = true ∧ i.wf = true ∧
  ∀ d : State, d.prev = s.prev → (∀ q, s.Remembers q → d.Remembers q) → chunkPixel d i = p ∧ chunkRun d i = d.run

/-- A hit (R104, R124). -/
theorem rebuilds_index {s : State} {p : Pixel} (h : s.Remembers p) : Rebuilds s p (.index (slotOf p)) :=
  ⟨rfl, rfl, fun _ _ hd => ⟨hd p h, rfl⟩⟩

theorem wf_of_diffFits {dr dg db : Int} (h : diffFits dr dg db = true) : (Instr.diff dr dg db).wf = true := h

theorem wf_of_lumaFits {dr dg db : Int} (h : lumaFits dr dg db = true) :
    (Instr.luma dg (dr - dg) (db - dg)).wf = true := h

/-- A miss (R106 to R109): each of the four chunks gives the pixel back (R122, R123, R125, R126). -/
theorem rebuilds_codeMiss (s : State) (p : Pixel) : Rebuilds s p (codeMiss p s.prev) := by
  rcases codeMiss_cases p s.prev with ⟨-, h⟩ | ⟨ha, hd, h⟩ | ⟨ha, -, hl, h⟩ | ⟨ha, -, -, h⟩ <;> rw [h]
  · exact ⟨rfl, rfl, fun _ _ _ => ⟨rfl, rfl⟩⟩
  · exact ⟨rfl, wf_of_diffFits hd, fun d hp _ => ⟨by rw [chunkPixel, hp, applyDeltas_delta ha], rfl⟩⟩
  · exact ⟨rfl, wf_of_lumaFits hl,
      fun d hp _ => ⟨by rw [chunkPixel, hp, sub_add_cancel, sub_add_cancel, applyDeltas_delta ha], rfl⟩⟩
  · exact ⟨rfl, rfl, fun d hp _ => ⟨by rw [chunkPixel, hp, ← ha], rfl⟩⟩

/-- An encoder pixel step: the pixel is counted; or counted and the run written out; or a pending run is written out, then a
chunk that stands for the pixel, which is then remembered (R101). -/
theorem State.encodePixel_cases (s : State) (p : Pixel) :
    (p = s.prev ∧ (s.run + 1).toNat ≠ 62 ∧ s.pxi.toNat + 1 ≠ s.npix.toNat ∧ (s.encodePixel p).run = s.run + 1 ∧
      (s.encodePixel p).hist = s.hist ∧ (s.encodePixel p).output = s.output) ∨
    (p = s.prev ∧ (s.encodePixel p).run = 0 ∧ (s.encodePixel p).hist = s.hist ∧
      (s.encodePixel p).output = s.output ++ encode (.run (s.run + 1).toNat)) ∨
    ((s.encodePixel p).run = 0 ∧ Stored s (s.encodePixel p) (slotOf p) p ∧
      ∃ i, Rebuilds s p i ∧ (s.encodePixel p).output = s.output ++ (flushBytes s.run ++ encode i)) := by
  have hrun : (s.encodePixel p).run = (s.selectOpcode p).run := by simp [State.encodePixel]
  have hhist : (s.encodePixel p).hist = (s.selectOpcode p).hist := by simp [State.encodePixel]
  have hout : (s.encodePixel p).output = (s.selectOpcode p).output := by simp [State.encodePixel]
  rw [hrun, hhist, hout]
  rcases s.selectOpcode_cases p with ⟨hp, hn, h⟩ | ⟨hp, -, h⟩ | ⟨-, hhit, h⟩ | ⟨-, -, h⟩ <;> rw [h] at hhist ⊢
  · obtain ⟨h62, hlast⟩ := not_or.1 hn
    exact .inl ⟨hp, h62, hlast, rfl, rfl, rfl⟩
  · exact .inr (.inl ⟨hp, rfl, rfl, rfl⟩)
  · refine .inr (.inr ⟨s.flushRun_run, fun j => ?_, _, rebuilds_index hhit, ?_⟩)
    · rw [State.lookup_of_hist (t := s.encodePixel p) (hhist.trans s.flushRun_hist)]
      split
      next hj => rw [hj, hhit]
      next => rfl
    · rw [State.emit_output, State.flushRun_output, List.append_assoc]
  · refine .inr (.inr ⟨s.flushRun_run, fun j => ?_, _, rebuilds_codeMiss s p, ?_⟩)
    · rw [State.lookup_of_hist (t := s.encodePixel p) (s := s.flushRun.remember p) hhist, State.lookup_remember,
        State.lookup_of_hist s.flushRun_hist]
    · rw [State.emit_output, State.remember_output, State.flushRun_output, List.append_assoc]

theorem encode_length (i : Instr) : (encode i).length = i.length := by
  cases i <;> rfl

/-! The encoder's side. -/

/-- The encoder between two pixels (R118): the run is short and not left pending after the last pixel, and PREV's slot does not
give back another pixel than PREV. -/
structure State.Coding (s : State) : Prop where
  run_le : s.run.toNat ≤ 61
  run_last : s.pxi.toNat = s.npix.toNat → s.run = 0
  prev_slot : ∀ q, s.Remembers q → slotOf q = slotOf s.prev → q = s.prev

/-- With nothing stored and the initial PREV: slot 53 gives no pixel back (R25). -/
theorem State.coding_of_initial {s : State} (hrun : s.run = 0) (hprev : s.prev = Config.initialPrev)
    (hhist : ∀ i, s.lookup i = Config.emptySlot) : s.Coding where
  run_le := by simp [hrun]
  run_last _ := hrun
  prev_slot q hq hs := by
    rw [State.Remembers, hhist] at hq
    rw [← hq, hprev, slotOf_emptySlot, slotOf_initialPrev] at hs
    exact absurd hs (by decide)

theorem run_succ_toNat {v : BitVec 6} (h : v.toNat ≤ 61) : (v + 1).toNat = v.toNat + 1 := by
  bv_omega

theorem State.Coding.encodePixel {s : State} (h : s.Coding) (hl : s.pxi < s.npix) (p : Pixel) :
    (s.encodePixel p).Coding := by
  have hsucc := run_succ_toNat h.run_le
  have same : p = s.prev → (s.encodePixel p).hist = s.hist →
      ∀ q, (s.encodePixel p).Remembers q → slotOf q = slotOf (s.encodePixel p).prev → q = (s.encodePixel p).prev := by
    intro hp hhist q hq hs
    rw [State.encodePixel_prev, hp] at hs ⊢
    exact h.prev_slot q (by rwa [State.Remembers, State.lookup_of_hist hhist] at hq) hs
  rcases s.encodePixel_cases p with ⟨hp, h62, hlast, hrun, hhist, -⟩ | ⟨hp, hrun, hhist, -⟩ | ⟨hrun, hst, -⟩
  · have := h.run_le
    refine ⟨by rw [hrun]; omega, fun he => ?_, same hp hhist⟩
    rw [State.encodePixel_pxi, State.encodePixel_npix, pxi_succ_toNat hl] at he
    exact absurd he hlast
  · exact ⟨by simp [hrun], fun _ => hrun, same hp hhist⟩
  · refine ⟨by simp [hrun], fun _ => hrun, fun q hq hs => ?_⟩
    rw [State.encodePixel_prev] at hs ⊢
    rw [State.Remembers, hst, if_pos hs] at hq
    exact hq.symm

theorem State.Coding.afterPixel {s : State} (h : s.Coding) (hl : s.pxi < s.npix) (p : Pixel) : (s.afterPixel p).Coding :=
  State.Coding.encodePixel (s := s.consume (bytesPerPixel s.channels)) ⟨h.run_le, h.run_last, h.prev_slot⟩ hl p

/-! The two sides in step. -/

/-- The decoder d stands in the pixel loop where the encoder e stands, but for the pixels of its own run and of the encoder's
pending run, all of them PREV (R131 (d)). -/
structure InStep (e d : State) : Prop where
  inLoop : d.inLoop
  decodes : d.mode = .decode
  loop : d.LoopWf
  npix : d.npix = e.npix
  channels : d.channels = e.channels
  prev : d.prev = e.prev
  pxi : d.pxi.toNat + d.run.toNat + e.run.toNat = e.pxi.toNat
  remembers : ∀ q, e.Remembers q → d.Remembers q

/-- From d the Decode command ends well, one step for each pixel left and one for the trailer, with these bytes written and
all of IN read (R84). -/
def Delivers (d : State) (bs : List Byte) : Prop :=
  ∃ t, core.run (d.npix.toNat - d.pxi.toNat + 1) d = .next t ∧ t.phase = .done ∧ t.success = true ∧ SameParams d t ∧
    t.output = d.output ++ bs ∧ t.ipos = d.input.length

/-- The raw bytes of n copies of PREV, then the bytes of IN that were not read. -/
def State.owed (e : State) (n : Nat) : List Byte :=
  (List.replicate n (rawBytes e.channels e.prev)).flatten ++ e.ahead

theorem State.owed_succ (e : State) (n : Nat) : e.owed (n + 1) = rawBytes e.channels e.prev ++ e.owed n := by
  simp [State.owed, List.replicate_succ]

/-- Any decoder in step with e which has these bytes ahead delivers what e owes. -/
def Owes (e : State) (bs : List Byte) : Prop :=
  ∀ d, InStep e d → d.ahead = bs → Delivers d (e.owed (d.run.toNat + e.run.toNat))

/-- A pixel step of the decoder, which delivers one pixel. -/
theorem Delivers.of_pixel {d t : State} {bs cs : List Byte} (hst : step d = .next t) (hl : d.pxi < d.npix)
    (hn : NextPixel d t) (hpar : SameParams d t) (hin : t.input = d.input) (hout : t.output = d.output ++ cs)
    (h : Delivers t bs) : Delivers d (cs ++ bs) := by
  obtain ⟨u, hrun, hph, hsuc, hpar', hout', hipos⟩ := h
  obtain ⟨hpxi, -, -, hnpix⟩ := hn
  rw [hpxi, hnpix, pxi_succ_toNat hl] at hrun
  have hk : d.npix.toNat - d.pxi.toNat = d.npix.toNat - (d.pxi.toNat + 1) + 1 := by
    have := BitVec.lt_def.1 hl
    omega
  refine ⟨u, by rw [hk, run_add_one hst, hrun], hph, hsuc, ?_, by rw [hout', hout, List.append_assoc], by rw [hipos, hin]⟩
  simpa [SameParams, hpar] using hpar'

/-- A run continuation of the decoder keeps it in step (R120). -/
theorem InStep.continueRun {e d : State} (h : InStep e d) (hp : d.phase = .pix) (hl : d.pxi < d.npix) (hr : d.run ≠ 0) :
    InStep e d.continueRun where
  inLoop := State.continueRun_inLoop hp
  decodes := by simp [h.decodes]
  loop := h.loop.nextPixel hp d.continueRun_nextPixel (by simp [SameParams])
  npix := by simp [h.npix]
  channels := by simp [h.channels]
  prev := by simp [h.prev]
  pxi := by
    have hsum := h.pxi
    have hpos := run_pos hr
    have hpred : (d.run - 1).toNat + 1 = d.run.toNat := by bv_omega
    simp only [State.continueRun_pxi, State.continueRun_run, pxi_succ_toNat hl]
    omega
  remembers q hq := (State.lookup_of_hist d.continueRun_hist _).trans (h.remembers q hq)

/-- It is enough that the decoders whose run has run out deliver (R120). -/
theorem owes_of_run_zero {e : State} {bs : List Byte} (hle : e.pxi.toNat ≤ e.npix.toNat)
    (h : ∀ d, InStep e d → d.run = 0 → d.ahead = bs → Delivers d (e.owed e.run.toNat)) : Owes e bs := by
  intro d hd hbs
  induction hn : d.run.toNat generalizing d with
  | zero =>
    rw [Nat.zero_add]
    exact h d hd (BitVec.eq_of_toNat_eq hn) hbs
  | succ n ih =>
    have hsum := hd.pxi
    have hlt : d.pxi.toNat < d.npix.toNat := by rw [hd.npix]; omega
    have hr : d.run ≠ 0 := fun h0 => by simp [h0] at hn
    have hp := hd.loop.phase_pix hd.inLoop hlt
    have hl : d.pxi < d.npix := BitVec.lt_def.2 hlt
    have hpred : (d.run - 1).toNat = n := by bv_omega
    have hrest := ih d.continueRun (hd.continueRun hp hl hr)
      ((State.ahead_of_streams (by simp) (by simp)).trans hbs) (by simpa using hpred)
    rw [Nat.add_right_comm, State.owed_succ]
    exact hrest.of_pixel (StepsTo.continues ⟨hp, hd.decodes, hl, hr⟩).step hl d.continueRun_nextPixel
      (by simp [SameParams]) (by simp) (by rw [State.continueRun_output, hd.channels, hd.prev])

/-- At the trailer nothing is owed and the decoder finds the trailer (R73, R82). -/
theorem owes_trailer {e : State} (h : e.Coding) (hend : e.pxi = e.npix) (hahead : e.ahead = []) :
    Owes e (encode .trailer) := by
  have hrun : e.run = 0 := h.run_last (by rw [hend])
  refine owes_of_run_zero (by rw [hend]) fun d hd hd0 hbs => ?_
  have hk : d.npix.toNat - d.pxi.toNat = 0 := by
    have hsum := hd.pxi
    have hd0' : d.run.toNat = 0 := by simp [hd0]
    have hrun' : e.run.toNat = 0 := by simp [hrun]
    rw [hend, ← hd.npix] at hsum
    omega
  have hp := hd.loop.phase_trl hd.inLoop (by omega)
  have hst := (StepsTo.trailerRead hp hd.decodes [] (by rw [hbs]; rfl)).step
  have hlen : 8 = d.input.length - d.ipos := by rw [← d.ahead_length, hbs]; rfl
  refine ⟨(d.consume 8).finish .none .done, by rw [hk]; exact run_one hst, by simp, by simp [successOf],
    by simp [SameParams], by simp [State.owed, hrun, hahead], ?_⟩
  simp only [State.finish_ipos, State.consume_ipos]
  omega

/-- The state after a chunk (R119). -/
def State.afterChunk (d : State) (i : Instr) : State :=
  (((d.consume i.length).setPrev (chunkPixel d i)).setRun (chunkRun d i)).finishChunk

theorem State.afterChunk_ahead (d : State) (i : Instr) : (d.afterChunk i).ahead = d.ahead.drop i.length := by
  rw [← State.ahead_consume]
  exact State.ahead_of_streams (by simp [State.afterChunk]) (by simp [State.afterChunk])

/-- The decoder takes the chunk i and is then in step with e': m copies of its pixel follow from its run, and what e owes is
its pixel and what e' owes. -/
structure Conveys (e : State) (i : Instr) (m : Nat) (e' : State) : Prop where
  chunk : i.isChunk = true
  wf : i.wf = true
  npix : e'.npix = e.npix
  channels : e'.channels = e.channels
  pxi : e'.pxi.toNat + e.run.toNat = e.pxi.toNat + 1 + m + e'.run.toNat
  resolves : ∀ d, InStep e d → d.run = 0 → chunkPixel d i = e'.prev ∧ (chunkRun d i).toNat = m
  remembers : ∀ d, InStep e d → ∀ q, e'.Remembers q → (d.remember e'.prev).Remembers q
  owed : e.owed e.run.toNat = rawBytes e'.channels e'.prev ++ e'.owed (m + e'.run.toNat)

theorem InStep.afterChunk {e e' d : State} {i : Instr} {m : Nat} (h : InStep e d) (hc : Conveys e i m e') (hd : d.atChunk) :
    InStep e' (d.afterChunk i) := by
  obtain ⟨hp, hm, hl, hd0⟩ := hd
  obtain ⟨hpixel, hrun⟩ := hc.resolves d h hd0
  exact {
    inLoop := State.finishChunk_inLoop hp
    decodes := by simp [State.afterChunk, hm]
    loop := h.loop.nextPixel hp (State.finishChunk_nextPixel _) (by simp [State.afterChunk, SameParams])
    npix := by simp [State.afterChunk, h.npix, hc.npix]
    channels := by simp [State.afterChunk, h.channels, hc.channels]
    prev := by simp [State.afterChunk, hpixel]
    pxi := by
      have hsum := h.pxi
      have hpxi := hc.pxi
      have hd0' : d.run.toNat = 0 := by simp [hd0]
      simp only [State.afterChunk, State.finishChunk_pxi, State.finishChunk_run, State.setRun_pxi, State.setRun_run,
        State.setPrev_pxi, State.consume_pxi, pxi_succ_toNat hl, hrun]
      omega
    remembers := fun q hq => by
      have hlook := hc.remembers d h q hq
      rw [State.Remembers, State.lookup_remember] at hlook
      rw [State.Remembers, State.afterChunk, State.finishChunk_lookup, State.setRun_prev, State.setPrev_prev, hpixel]
      exact hlook }

/-- A chunk the encoder wrote: when the rest is what e' owes, the whole is what e owes. -/
theorem Owes.of_conveys {e e' : State} {i : Instr} {m : Nat} {bs : List Byte} (h : Owes e' bs) (hc : Conveys e i m e')
    (hl : e.pxi < e.npix) : Owes e (encode i ++ bs) := by
  have hlt := BitVec.lt_def.1 hl
  refine owes_of_run_zero hlt.le fun d hd hd0 hbs => ?_
  have hsum := hd.pxi
  have hlt' : d.pxi.toNat < d.npix.toNat := by rw [hd.npix]; omega
  have hat : d.atChunk := ⟨hd.loop.phase_pix hd.inLoop hlt', hd.decodes, BitVec.lt_def.2 hlt', hd0⟩
  have hdec : decode .chunk d.ahead = .ok i bs := by rw [hbs, decode_encode_chunk hc.chunk hc.wf]
  have hahead : (d.afterChunk i).ahead = bs := by rw [State.afterChunk_ahead, hbs, ← encode_length, List.drop_left]
  obtain ⟨hpixel, hrun⟩ := hc.resolves d hd hd0
  have hrest := h _ (hd.afterChunk hc hat) hahead
  have hrun' : (d.afterChunk i).run.toNat = m := by simp [State.afterChunk, hrun]
  rw [hrun'] at hrest
  rw [hc.owed]
  exact hrest.of_pixel (StepsTo.chunk hat i bs hdec hc.chunk hc.wf).step (BitVec.lt_def.2 hlt')
    (State.finishChunk_nextPixel _) (by simp [SameParams]) (by simp)
    (by simp [State.finishChunk_output, hpixel, hc.channels, hd.channels])

/-! What the encoder wrote is what it owes. -/

/-- Storing p keeps what is remembered elsewhere, and p's own slot gives p back. -/
theorem remembers_remember {s d : State} {p : Pixel} (hslot : ∀ q, s.Remembers q → slotOf q = slotOf p → q = p)
    (hrem : ∀ q, s.Remembers q → slotOf q ≠ slotOf p → d.Remembers q) (q : Pixel) (hq : s.Remembers q) :
    (d.remember p).Remembers q := by
  rw [State.Remembers, State.lookup_remember]
  split
  next h => exact (hslot q hq h).symm
  next h => exact hrem q hq h

/-- A RUN chunk for n pixels equal to PREV, the pending ones among them, takes the decoder past all of them (R110, R127). -/
theorem conveys_run {e e' : State} {n : Nat} (h : e.Coding) (h1 : 1 ≤ n) (h62 : n ≤ 62) (hnpix : e'.npix = e.npix)
    (hc : e'.channels = e.channels) (hprev : e'.prev = e.prev) (hhist : e'.hist = e.hist) (hrun : e'.run = 0)
    (hpxi : e'.pxi.toNat + e.run.toNat = e.pxi.toNat + n) (howed : e.owed e.run.toNat = e'.owed n) :
    Conveys e (.run n) (n - 1) e' where
  chunk := rfl
  wf := by simp [Instr.wf, h1, h62]
  npix := hnpix
  channels := hc
  pxi := by
    have hrun' : e'.run.toNat = 0 := by simp [hrun]
    omega
  resolves d hd _ := ⟨by rw [chunkPixel, hd.prev, hprev], by rw [chunkRun, BitVec.toNat_ofNat]; omega⟩
  remembers d hd := by
    have hsame : ∀ q, e'.Remembers q → e.Remembers q := fun q hq => (State.lookup_of_hist hhist _).symm.trans hq
    rw [hprev]
    exact remembers_remember (fun q hq => h.prev_slot q (hsame q hq)) fun q hq _ => hd.remembers q (hsame q hq)
  owed := by
    have hn : n - 1 + e'.run.toNat + 1 = n := by
      have hrun' : e'.run.toNat = 0 := by simp [hrun]
      omega
    rw [← State.owed_succ, hn, howed]

/-- The flush of a pending run, if there is one (R103). -/
theorem Owes.of_flushRun {e : State} {bs : List Byte} (h : Owes e.flushRun bs) (hc : e.Coding) (hl : e.pxi < e.npix) :
    Owes e (flushBytes e.run ++ bs) := by
  rcases e.flushRun_cases with ⟨-, hf, hb⟩ | ⟨hr, hf, hb⟩ <;> rw [hb] <;> rw [hf] at h
  · exact h
  · have hle := hc.run_le
    exact h.of_conveys (conveys_run hc (run_pos hr) (by omega) rfl rfl rfl rfl rfl rfl rfl) hl

section
variable {s : State} {p : Pixel} (h : s.Coding) (hl : s.pxi < s.npix)
  (hp : s.ahead = rawBytes s.channels p ++ s.ahead.drop (bytesPerPixel s.channels))

include hp in
/-- What is owed before a pixel equal to PREV is what is owed after it, with one more copy (R102). -/
theorem State.owed_of_equal (he : p = s.prev) (n : Nat) : s.owed n = (s.afterPixel p).owed (n + 1) := by
  rw [State.owed, hp, State.owed, State.afterPixel_ahead, State.encodePixel_prev, State.encodePixel_channels, he]
  simp [List.replicate_succ']

include hl hp

/-- The chunk of a pixel that differs from PREV, the pending run written out before (R104 to R109). -/
theorem conveys_pixel {i : Instr} (hi : Rebuilds s p i) (hrun : (s.afterPixel p).run = 0)
    (hst : Stored s (s.afterPixel p) (slotOf p) p) : Conveys s.flushRun i 0 (s.afterPixel p) := by
  obtain ⟨hchunk, hwf, hres⟩ := hi
  exact {
    chunk := hchunk
    wf := hwf
    npix := by simp
    channels := by simp
    pxi := by
      simp only [hrun, State.flushRun_run, State.flushRun_pxi, State.encodePixel_pxi, State.consume_pxi,
        pxi_succ_toNat hl]
    resolves := fun d hd hd0 => by
      have hrem : ∀ q, s.Remembers q → d.Remembers q :=
        fun q hq => hd.remembers q ((State.lookup_of_hist s.flushRun_hist _).trans hq)
      obtain ⟨hpix, hr⟩ := hres d (by simp [hd.prev]) hrem
      exact ⟨by simp [hpix], by simp [hr, hd0]⟩
    remembers := fun d hd => by
      rw [State.encodePixel_prev]
      refine remembers_remember (fun q hq hs => ?_) fun q hq hs => hd.remembers q ?_
      · rw [State.Remembers, hst, if_pos hs] at hq
        exact hq.symm
      · rw [State.Remembers, hst, if_neg hs] at hq
        exact (State.lookup_of_hist s.flushRun_hist _).trans hq
    owed := by
      have ha : s.flushRun.ahead = s.ahead := State.ahead_of_streams (by simp) (by simp)
      simpa [State.owed, ha, hrun, State.flushRun_run, State.afterPixel_ahead] using hp }

include h in
/-- The decoder of an equal pixel that is only counted does not move (R102). -/
theorem Owes.of_counted {bs : List Byte} (he : p = s.prev) (hrun : (s.afterPixel p).run = s.run + 1)
    (hhist : (s.afterPixel p).hist = s.hist) (ho : Owes (s.afterPixel p) bs) : Owes s bs := by
  intro d hd hbs
  have hsucc := run_succ_toNat h.run_le
  have hd' : InStep (s.afterPixel p) d := {
    inLoop := hd.inLoop
    decodes := hd.decodes
    loop := hd.loop
    npix := by simp [hd.npix]
    channels := by simp [hd.channels]
    prev := by simp [hd.prev, he]
    pxi := by
      have hsum := hd.pxi
      simp only [hrun, hsucc, State.encodePixel_pxi, State.consume_pxi, pxi_succ_toNat hl]
      omega
    remembers := fun q hq => hd.remembers q ((State.lookup_of_hist hhist _).symm.trans hq) }
  have hdel := ho d hd' hbs
  rwa [hrun, hsucc, ← Nat.add_assoc, ← State.owed_of_equal hp he] at hdel

include h in
/-- An equal pixel whose run is written out (R102, R110). -/
theorem conveys_counted (he : p = s.prev) (hrun : (s.afterPixel p).run = 0) (hhist : (s.afterPixel p).hist = s.hist) :
    Conveys s (.run (s.run + 1).toNat) s.run.toNat (s.afterPixel p) := by
  have hle := h.run_le
  rw [run_succ_toNat hle]
  exact conveys_run h (by omega) (by omega) (by simp) (by simp) (by simp [he]) hhist hrun
    (by simp only [State.encodePixel_pxi, State.consume_pxi, pxi_succ_toNat hl]; omega) (State.owed_of_equal hp he _)

include h in
/-- A pixel step of Encode writes what takes the decoder along (R84). -/
theorem Owes.of_pixel {bs : List Byte} (ho : Owes (s.afterPixel p) bs) :
    ∃ cs, (s.afterPixel p).output = s.output ++ cs ∧ Owes s (cs ++ bs) := by
  rcases (s.consume (bytesPerPixel s.channels)).encodePixel_cases p with
    ⟨he, -, -, hrun, hhist, hout⟩ | ⟨he, hrun, hhist, hout⟩ | ⟨hrun, hst, i, hi, hout⟩
  · exact ⟨[], by simp [hout], ho.of_counted h hl hp he hrun hhist⟩
  · exact ⟨_, hout, ho.of_conveys (conveys_counted h hl hp he hrun hhist) hl⟩
  · refine ⟨_, hout, ?_⟩
    rw [List.append_assoc]
    exact (ho.of_conveys (conveys_pixel hl hp hi hrun hst) (by simpa using hl)).of_flushRun h hl

end

/-- What the loop of Encode wrote, and the trailer after it, is what was owed when it began. -/
theorem EncodesPixels.owes {k : Nat} {s t : State} (h : EncodesPixels k s t) (hc : s.Coding) (hend : t.pxi = t.npix)
    (ha : t.ahead = []) : ∃ cs, t.output = s.output ++ cs ∧ Owes s (cs ++ encode .trailer) := by
  induction h with
  | refl s => exact ⟨[], by simp, owes_trailer hc hend ha⟩
  | pixel hr p hp _ _ ih =>
    obtain ⟨-, -, hl⟩ := hr
    obtain ⟨cs, hout, ho⟩ := ih (hc.afterPixel hl p) hend ha
    obtain ⟨cs', hout', ho'⟩ := ho.of_pixel hc hl hp
    exact ⟨cs' ++ cs, by rw [hout, hout', List.append_assoc], by rwa [List.append_assoc]⟩

/-! The two commands. -/

theorem State.startEncode_afterHeader_coding (s : State) (raw : List Byte) : (s.startEncode raw).afterHeader.Coding := by
  refine State.coding_of_initial ?_ ?_ fun i => ?_
  · simp [State.afterHeader, State.startEncode, State.startCommand]
  · simp [State.afterHeader, State.startEncode, State.startCommand]
  · rw [← s.lookup_initCodec i]
    exact State.lookup_of_hist (by simp [State.afterHeader, State.startEncode, State.startCommand]) i

/-- The state after the header step of Decode (R79). -/
def State.afterHeaderRead (d : State) (w h : BitVec 32) (c k : Byte) : State :=
  ((d.consume 14).setParams w h c k).enterPixels w h

theorem State.afterHeaderRead_ahead (d : State) (w h : BitVec 32) (c k : Byte) :
    (d.afterHeaderRead w h c k).ahead = d.ahead.drop 14 := by
  rw [← State.ahead_consume]
  exact State.ahead_of_streams (by simp [State.afterHeaderRead]) (by simp [State.afterHeaderRead])

/-- After the header steps of the two commands, both just started, the decoder is in step (R70, R71, R77, R79). -/
theorem inStep_afterHeader {e d : State} (he : e.pxi = 0) (hd : d.pxi = 0) (her : e.run = 0) (hdr : d.run = 0)
    (hm : d.mode = .decode) (hprev : d.prev = e.prev) (hhist : d.hist = e.hist) :
    InStep e.afterHeader (d.afterHeaderRead e.width e.height e.channels e.colorspace) where
  inLoop := State.enterPixels_inLoop ..
  decodes := by simp [State.afterHeaderRead, hm]
  loop := State.enterPixels_loopWf (by simp [hd]) (by simp) (by simp)
  npix := by simp [State.afterHeader, State.afterHeaderRead]
  channels := by simp [State.afterHeader, State.afterHeaderRead]
  prev := by simp [State.afterHeader, State.afterHeaderRead, hprev]
  pxi := by simp [State.afterHeader, State.afterHeaderRead, he, hd, her, hdr]
  remembers q hq := (State.lookup_of_hist (by simp [State.afterHeader, State.afterHeaderRead, hhist]) _).trans hq

/-- What Encode owes after its header is the raw stream, and the Decode command delivers it (R84). -/
theorem Owes.delivers_ahead {e d : State} {bs : List Byte} (h : Owes e.afterHeader bs)
    (hd : InStep e.afterHeader (d.afterHeaderRead e.width e.height e.channels e.colorspace)) (her : e.run = 0)
    (hdr : d.run = 0) (hahead : d.ahead = encode (.header e.width e.height e.channels e.colorspace) ++ bs) :
    Delivers (d.afterHeaderRead e.width e.height e.channels e.colorspace) e.ahead := by
  have hdel := h _ hd (by rw [State.afterHeaderRead_ahead, hahead]; rfl)
  have hd0 : (d.afterHeaderRead e.width e.height e.channels e.colorspace).run = 0 := by simp [State.afterHeaderRead, hdr]
  have he0 : e.afterHeader.run = 0 := by simp [State.afterHeader, her]
  have howed : e.afterHeader.owed 0 = e.ahead := e.afterHeader_ahead
  rw [hd0, he0] at hdel
  exact howed ▸ hdel

/-- The steps of a Decode command after its start: the header, then the pixels and the trailer (R176). -/
theorem run_decode {d t : State} {w h : BitVec 32} {c k : Byte} {bs : List Byte} (hp : d.phase = .hdr)
    (hm : d.mode = .decode) (hpxi : d.pxi = 0) (hahead : d.ahead = encode (.header w h c k) ++ bs)
    (hrun : core.run ((d.afterHeaderRead w h c k).npix.toNat - (d.afterHeaderRead w h c k).pxi.toNat + 1)
      (d.afterHeaderRead w h c k) = .next t) : core.run (1 + w.toNat * h.toNat + 1) d = .next t := by
  have hst : step d = .next (d.afterHeaderRead w h c k) :=
    (StepsTo.headerRead hp hm w h c k bs (by rw [hahead, decode_encode_header])).step
  have hk : (d.afterHeaderRead w h c k).npix.toNat - (d.afterHeaderRead w h c k).pxi.toNat = w.toNat * h.toNat := by
    simp [State.afterHeaderRead, hpxi, pixelCount_toNat]
  rw [Nat.add_assoc, Nat.add_comm 1, run_add_one hst, ← hk, hrun]

/-- Encode from its start on a raw stream of the image's length writes the header and then what is owed after it, the whole raw
stream (R70 to R76). -/
theorem encode_writes_owed {s : State} {raw : List Byte} {q : List HostMove} (hs : s.ended)
    (hp : s.pending = .startEncode raw :: q)
    (hlen : raw.length = s.width.toNat * s.height.toNat * bytesPerPixel s.channels) :
    ∃ e bs, core.run (1 + (1 + s.width.toNat * s.height.toNat + 1)) s = .next e ∧ e.phase = .done ∧ e.success = true ∧
      e.output = encode (.header s.width s.height s.channels s.colorspace) ++ bs ∧
      Owes ((s.setPending q).startEncode raw).afterHeader bs := by
  obtain ⟨hst, t, ht, htp, htm, hend⟩ := encodes_from_header (s := (s.setPending q).startEncode raw) rfl rfl rfl hlen.ge
  have hahead : t.ahead = [] := by
    rw [ht.ahead, State.afterHeader_ahead, State.afterHeader, State.enterPixels_channels]
    exact List.drop_eq_nil_of_le hlen.le
  obtain ⟨cs, hcs, howes⟩ := ht.owes (State.startEncode_afterHeader_coding _ raw) hend hahead
  refine ⟨(t.emit .trailer).finish .none .done, cs ++ encode .trailer, ?_, rfl, rfl, ?_, howes⟩
  · rw [Nat.add_comm 1, run_add_one (step_host hs hp)]
    exact run_encode hst ht htp htm
  · simp [hcs, State.afterHeader, State.startEncode, State.startCommand]

/-- Decode from its start on a header and what is owed after it gives the parameters and the raw stream (R77 to R82). -/
theorem decode_delivers_owed {s d : State} {raw bs : List Byte} {r : List HostMove} (hd : d.ended)
    (hp : d.pending = .startDecode (encode (.header s.width s.height s.channels s.colorspace) ++ bs) :: r)
    (h : Owes (s.startEncode raw).afterHeader bs) :
    ∃ t, core.run (1 + (1 + s.width.toNat * s.height.toNat + 1)) d = .next t ∧ t.phase = .done ∧ t.success = true ∧
      t.width = s.width ∧ t.height = s.height ∧ t.channels = s.channels ∧ t.colorspace = s.colorspace ∧
      t.output = raw ∧ t.ipos = (encode (.header s.width s.height s.channels s.colorspace) ++ bs).length := by
  generalize hin : encode (.header s.width s.height s.channels s.colorspace) ++ bs = stream at hp ⊢
  have hahead : ((d.setPending r).startDecode stream).ahead =
      encode (.header s.width s.height s.channels s.colorspace) ++ bs := hin.symm
  have hstep := inStep_afterHeader (e := s.startEncode raw) (d := (d.setPending r).startDecode stream)
    rfl rfl rfl rfl rfl rfl rfl
  obtain ⟨t, hrun, hph, hsuc, ⟨hw, hh, hc, hk⟩, hout, hipos⟩ := h.delivers_ahead hstep rfl rfl hahead
  refine ⟨t, ?_, hph, hsuc, hw.trans (State.enterPixels_width ..), hh.trans (State.enterPixels_height ..),
    hc.trans (State.enterPixels_channels ..), hk.trans (State.enterPixels_colorspace ..), ?_, ?_⟩
  · rw [Nat.add_comm 1, run_add_one (step_host hd hp)]
    exact run_decode rfl rfl rfl hahead hrun
  · rw [hout, State.afterHeaderRead, State.enterPixels_output]
    rfl
  · rw [hipos, State.afterHeaderRead, State.enterPixels_input]
    rfl

/-- Settles O58: Encode writes the header and what it then owes, the whole raw stream; Decode is in step after the header, so
it delivers that. -/
theorem decodeInvertsEncode : Obligations.DecodeInvertsEncode := by
  unfold Obligations.DecodeInvertsEncode
  intro s raw q hs hp hlen
  obtain ⟨e, bs, hrun, hph, hsuc, hout, howes⟩ := encode_writes_owed hs hp hlen
  refine ⟨e, hrun, hph, hsuc, fun d r hd hdp => ?_⟩
  rw [hout] at hdp ⊢
  exact decode_delivers_owed (s := s.setPending q) hd hdp howes

end Sys2Proof.Machine

/-! PROOFS. While a command runs the host has no move (O14): no operation of a running command looks at the queue. -/

namespace Sys2Proof.Machine

/-! Each operation of a running command commutes with a replacement of the queue. -/

section
variable (s : State) (q : List HostMove)

theorem State.emitPixel_setPending : s.emitPixel.setPending q = (s.setPending q).emitPixel :=
  apply_ite (State.setPending · q) _ _ _

theorem State.loopTest_setPending : s.loopTest.setPending q = (s.setPending q).loopTest :=
  apply_ite (State.setPending · q) _ _ _

theorem State.endPixel_setPending : s.endPixel.setPending q = (s.setPending q).endPixel :=
  (s.setPxi (s.pxi + 1)).loopTest_setPending q

theorem State.finishChunk_setPending : s.finishChunk.setPending q = (s.setPending q).finishChunk := by
  simp only [State.finishChunk, State.endPixel_setPending, State.emitPixel_setPending]; rfl

theorem State.continueRun_setPending : s.continueRun.setPending q = (s.setPending q).continueRun := by
  simp only [State.continueRun, State.endPixel_setPending, State.emitPixel_setPending]; rfl

theorem State.enterPixels_setPending (w h : BitVec 32) :
    (s.enterPixels w h).setPending q = (s.setPending q).enterPixels w h :=
  ((s.setNpix (pixelCount w h)).setPhase .pix).loopTest_setPending q

theorem State.flushRun_setPending : s.flushRun.setPending q = (s.setPending q).flushRun :=
  apply_ite (State.setPending · q) _ _ _

theorem State.selectOpcode_setPending (p : Pixel) :
    (s.selectOpcode p).setPending q = (s.setPending q).selectOpcode p := by
  have hcount : s.countRun.setPending q = (s.setPending q).countRun := apply_ite (State.setPending · q) _ _ _
  have hcode : (s.flushRun.codePixel p).setPending q = (s.flushRun.setPending q).codePixel p :=
    apply_ite (State.setPending · q) _ _ _
  have h := apply_ite (State.setPending · q) (p = s.prev) s.countRun (s.flushRun.codePixel p)
  rwa [hcount, hcode, State.flushRun_setPending] at h

theorem State.encodePixel_setPending (p : Pixel) :
    (s.encodePixel p).setPending q = (s.setPending q).encodePixel p := by
  simp only [State.encodePixel, State.endPixel_setPending, ← State.selectOpcode_setPending]; rfl

theorem raise_setPending (r : Reject) : (raise r s).setPending q = raise r (s.setPending q) := by
  cases r <;> rfl

theorem chunkPixel_setPending (i : Instr) : chunkPixel (s.setPending q) i = chunkPixel s i := by
  cases i <;> rfl

theorem chunkRun_setPending (i : Instr) : chunkRun (s.setPending q) i = chunkRun s i := by
  cases i <;> rfl

end

theorem State.Reads.setPending {s : State} {site : Site} (h : s.Reads site) (q : List HostMove) :
    (s.setPending q).Reads site := by
  cases site <;> exact h

theorem raise_pending (r : Reject) (s : State) : (raise r s).pending = s.pending := by
  cases r <;> rfl

/-- A step of a running command keeps the queue, and is the same step with any other queue (R85). -/
theorem StepsTo.setPending {s t : State} (hs : s.running) (h : StepsTo s t) (q : List HostMove) :
    t.pending = s.pending ∧ StepsTo (s.setPending q) (t.setPending q) := by
  cases h with
  | waits hw _ => exact absurd hs (State.ended_not_running (hw.imp id .inl))
  | host he => exact absurd hs (State.ended_not_running he)
  | fails site hr r hd =>
    rw [raise_setPending]
    exact ⟨raise_pending r s, .fails site (hr.setPending q) r hd⟩
  | headerWritten hp hm =>
    rw [State.enterPixels_setPending]
    exact ⟨by simp, .headerWritten (s := s.setPending q) hp hm⟩
  | headerRead hp hm w ht c k rest hd =>
    rw [State.enterPixels_setPending]
    exact ⟨by simp, .headerRead (s := s.setPending q) hp hm w ht c k rest hd⟩
  | chunk hc i rest hd hi hw =>
    rw [State.finishChunk_setPending, ← chunkPixel_setPending s q, ← chunkRun_setPending s q]
    exact ⟨by simp, .chunk (s := s.setPending q) hc i rest hd hi hw⟩
  | continues hc =>
    rw [State.continueRun_setPending]
    exact ⟨by simp, .continues hc⟩
  | raw hr i rest hd p hi ha =>
    rw [State.encodePixel_setPending]
    exact ⟨by simp, .raw (s := s.setPending q) hr i rest hd p hi ha⟩
  | leaves hp hl => exact ⟨rfl, .leaves hp hl⟩
  | trailerWritten hp hm => exact ⟨rfl, .trailerWritten hp hm⟩
  | trailerRead hp hm rest hd => exact ⟨rfl, .trailerRead hp hm rest hd⟩

/-- Settles O14: each way a running command can step, by `StepsTo.setPending`. -/
theorem hostHasNoMoveWhileRunning : Obligations.HostHasNoMoveWhileRunning := by
  unfold Obligations.HostHasNoMoveWhileRunning
  intro s t q hs h
  obtain ⟨hq, hst⟩ := (step_cases h).setPending hs q
  exact ⟨hq, hst.step⟩

end Sys2Proof.Machine

/-! PROOFS. The header and the trailer (O15 to O21) and the command starts (O8, O10, O11). -/

namespace Sys2Proof.Machine

/-- Settles O8: a reading state fetches from its site, and in Encode the sequencer supplies the record. -/
theorem stepRunsDecodedInstruction : Obligations.StepRunsDecodedInstruction := by
  unfold Obligations.StepRunsDecodedInstruction
  intro s i rest
  refine ⟨fun ⟨hp, hm, hd⟩ => ?_, fun ⟨h, hd⟩ => ?_, fun ⟨hp, hm, hd⟩ => ?_, fun ⟨h, hc, hd⟩ => ?_, fun ⟨h, hc, hd⟩ => ?_,
    fun ⟨hp, hm⟩ => ?_, fun ⟨hp, hm⟩ => ?_⟩
  · exact step_fetch_ok (nextMove_reads (site := .header) ⟨hp, hm⟩) hd
  · exact step_fetch_ok (nextMove_reads (site := .chunk) h) hd
  · exact step_fetch_ok (nextMove_reads (site := .trailer) ⟨hp, hm⟩) hd
  · exact step_fetch_ok (nextMove_reads (site := .raw4) ⟨h, hc⟩) hd
  · exact step_fetch_ok (nextMove_reads (site := .raw3) ⟨h, hc⟩) hd
  · simp [step, nextMove, hp, hm]
  · simp [step, nextMove, hp, hm]

/-! The starts (R25). -/

theorem State.startCommand_started (s : State) (m : Mode) (bs : List Byte) (q : List HostMove) (hq : s.pending = q) :
    Started s (s.startCommand m bs) m bs q :=
  ⟨rfl, rfl, s.lookup_initCodec, rfl, rfl, rfl, rfl, rfl, rfl, rfl, hq, rfl⟩

/-- Settles O10: the host's move is the whole step. -/
theorem encodeStartInitialises : Obligations.EncodeStartInitialises := by
  unfold Obligations.EncodeStartInitialises
  intro s raw q hs hp
  exact ⟨_, step_host hs hp, State.startCommand_started (s.setPending q) .encode raw q rfl, rfl, rfl, rfl, rfl⟩

/-- Settles O11: the host's move is the whole step. -/
theorem decodeStartInitialises : Obligations.DecodeStartInitialises := by
  unfold Obligations.DecodeStartInitialises
  intro s stream q hs hp
  exact ⟨_, step_host hs hp, State.startCommand_started (s.setPending q).forgetParams .decode stream q rfl⟩

/-! The header. -/

/-- The end of both header steps: NPIX is the product, PHASE follows from it, all else stays (R71, R79). -/
theorem State.enterPixels_headerDone {s u : State} {n : Nat} {bs : List Byte} (hmv : Moved s u n bs) (hc : SameCodec s u)
    (hpxi : u.pxi = s.pxi) (hm : u.mode = s.mode) (hst : SameStatus s u) (hsur : SameSurroundings s u) :
    HeaderDone s (u.enterPixels u.width u.height) n bs u.width u.height u.channels u.colorspace := by
  have hphase : (u.enterPixels u.width u.height).phase =
      if s.pxi.toNat < u.width.toNat * u.height.toNat then .pix else .trl := by
    rw [State.enterPixels_phase, hpxi]
    simp only [BitVec.lt_def, pixelCount_toNat]
  refine ⟨by simp, by simp, by simp, by simp, by simp [pixelCount_toNat], hphase, ?_, ?_, by simp [hpxi], by simp [hm], ?_, ?_⟩
  · simpa [Moved] using hmv
  · simpa [SameCodec] using hc
  · simpa [SameStatus] using hst
  · simpa [SameSurroundings] using hsur

/-- HEADER read (R79). -/
theorem exec_header_decode {s : State} (hm : s.mode = .decode) (w h : BitVec 32) (c k : Byte) :
    exec (.header w h c k) s = .next (s.afterHeaderRead w h c k) := by
  simp only [exec, execHeader, hm, State.afterHeaderRead]

theorem State.afterHeaderRead_headerDone (s : State) (w h : BitVec 32) (c k : Byte) :
    HeaderDone s (s.afterHeaderRead w h c k) 14 [] w h c k :=
  State.enterPixels_headerDone (u := (s.consume 14).setParams w h c k) (by simp [Moved]) (by simp [SameCodec]) rfl rfl
    (by simp [SameStatus]) (by simp [SameSurroundings])

/-- HEADER written (R71). -/
theorem State.afterHeader_headerDone (s : State) :
    HeaderDone s s.afterHeader 0 (encode (.header s.width s.height s.channels s.colorspace)) s.width s.height s.channels
      s.colorspace :=
  State.enterPixels_headerDone (u := s.emit (.header s.width s.height s.channels s.colorspace)) (by simp [Moved])
    (by simp [SameCodec]) rfl rfl (by simp [SameStatus]) (by simp [SameSurroundings])

/-- The four bytes of a word as a number, most significant first (R36). -/
theorem toNat_eq_be32Bytes (v : BitVec 32) :
    v.toNat = (BitVec.ofNat 8 (v.toNat / 2 ^ 24)).toNat * 2 ^ 24 + (BitVec.ofNat 8 (v.toNat / 2 ^ 16)).toNat * 2 ^ 16 +
      (BitVec.ofNat 8 (v.toNat / 2 ^ 8)).toNat * 2 ^ 8 + (BitVec.ofNat 8 v.toNat).toNat := by
  have := v.isLt
  simp only [BitVec.toNat_ofNat]
  omega

/-- A word whose number is that of the four bytes is read from them (R36). -/
theorem be32_eq {b0 b1 b2 b3 : Byte} {v : BitVec 32}
    (h : v.toNat = b0.toNat * 2 ^ 24 + b1.toNat * 2 ^ 16 + b2.toNat * 2 ^ 8 + b3.toNat) : be32 b0 b1 b2 b3 = v := by
  rw [be32, ← h, BitVec.ofNat_toNat, BitVec.setWidth_eq]

/-- A header that ends inside its fields is rejected at the end of the stream (R79, R142). -/
theorem decode_header_short {fs : List Byte} (h : fs.length < 10) :
    ∃ n, decode .header ([0x71, 0x6f, 0x69, 0x66] ++ fs) = .reject (.short n) := by
  have hfields : decode .header ([0x71, 0x6f, 0x69, 0x66] ++ fs) = decodeFields fs := rfl
  rw [hfields, decodeFields.eq_def]
  split
  · simp at h
    omega
  · exact ⟨_, rfl⟩

/-- StreamExhausted taken (R142). -/
theorem raise_short_exhausted (n : Nat) (s : State) : Exhausted s (raise (.short n) s) n := by
  simp [Exhausted, raise, successOf, ReadOnly]

/-- Settles O15: the header step as `State.afterHeaderRead_headerDone` says, its bytes by `be32_eq`. -/
theorem headerReadInDecode : Obligations.HeaderReadInDecode := by
  unfold Obligations.HeaderReadInDecode
  intro s hm
  refine ⟨fun w h c k => ⟨_, exec_header_decode hm w h c k, s.afterHeaderRead_headerDone w h c k⟩, ?_, ?_⟩
  · intro w3 w2 w1 w0 h3 h2 h1 h0 c k w h rest hp hw hh hahead
    refine step_fetch_ok (rest := rest) (nextMove_reads (site := .header) ⟨hp, hm⟩) ?_
    rw [hahead, ← be32_eq hw, ← be32_eq hh]
    rfl
  · intro fs hp hahead hlen
    obtain ⟨n, hd⟩ := decode_header_short hlen
    exact ⟨_, n, step_fetch_reject (nextMove_reads (site := .header) ⟨hp, hm⟩) (hahead ▸ hd), raise_short_exhausted n s⟩

/-- Settles O16: the magic is compared before any field is read, and BadMagic ends the command. -/
theorem wrongMagicEndsDecode : Obligations.WrongMagicEndsDecode := by
  unfold Obligations.WrongMagicEndsDecode
  intro s m0 m1 m2 m3 rest hp hm hahead hmagic
  have hd : decode .header s.ahead = .reject .badMagic := by
    rw [hahead, decode, decodeHeader, if_neg]
    simpa [Config.magic] using hmagic
  refine ⟨_, step_fetch_reject (nextMove_reads (site := .header) ⟨hp, hm⟩) hd, rfl, rfl, rfl, ⟨rfl, rfl, rfl⟩, ⟨rfl, rfl, rfl⟩,
    rfl, rfl, rfl, rfl, rfl, ?_⟩
  rintro u bs q ⟨-, -, hlook, hprev, hrun, -, -, hipos, hout, hopos, -, -⟩
  exact ⟨by simp [raise, hipos], hopos, hout, hlook, hprev, hrun⟩

/-- Settles O17: the bytes are `encode`'s, the words' bytes by `toNat_eq_be32Bytes`. -/
theorem headerWrittenInEncode : Obligations.HeaderWrittenInEncode := by
  unfold Obligations.HeaderWrittenInEncode
  rintro s w h c k hm rfl rfl rfl rfl
  refine ⟨s.afterHeader, _, _, _, _, _, _, _, _, ?_, s.afterHeader_headerDone, toNat_eq_be32Bytes _, toNat_eq_be32Bytes _⟩
  simp only [exec, execHeader, hm, State.afterHeader]

/-! The trailer. -/

/-- The trailer step of Decode: eight bytes are read, then compared (R82, R145). -/
theorem step_trailer_decode {s : State} {bs rest : List Byte} (hp : s.phase = .trl) (hm : s.mode = .decode)
    (hlen : bs.length = 8) (hahead : s.ahead = bs ++ rest) :
    step s = .next ((s.consume 8).finish (if bs = Config.trailer then .none else .badTrailer) .done) := by
  have hd := decodeTrailer_take_append (bs := bs) hlen.ge rest
  rw [List.take_of_length_le hlen.le, ← hahead] at hd
  split at hd
  next htr =>
    rw [if_pos htr]
    exact (StepsTo.trailerRead hp hm rest hd).step
  next htr =>
    rw [if_neg htr]
    exact step_fetch_reject (nextMove_reads (site := .trailer) ⟨hp, hm⟩) hd

/-- Eight bytes read, the command ended (R82, R145). -/
theorem State.consume_finish_endedCommand (s : State) (c : Cause) :
    EndedCommand s ((s.consume 8).finish c .done) 8 [] (successOf c) c := by
  simp [EndedCommand, Moved, SameCodec, SameParams, SameSurroundings]

/-- Settles O18: all eight bytes are read, then compared (`step_trailer_decode`). -/
theorem trailerCheckedInDecode : Obligations.TrailerCheckedInDecode := by
  unfold Obligations.TrailerCheckedInDecode
  intro s hm
  constructor
  · exact ⟨_, by simp only [exec, execTrailer, hm], s.consume_finish_endedCommand .none⟩
  · intro bs rest hp hlen hahead
    refine ⟨_, step_trailer_decode hp hm hlen hahead, ?_⟩
    split
    next htr =>
      rw [if_pos (show bs = Config.trailer from htr)]
      exact s.consume_finish_endedCommand .none
    next htr =>
      rw [if_neg (show bs ≠ Config.trailer from htr)]
      exact s.consume_finish_endedCommand .badTrailer

/-- Settles O19: END in Encode looks at MODE only. -/
theorem trailerWrittenInEncode : Obligations.TrailerWrittenInEncode := by
  unfold Obligations.TrailerWrittenInEncode
  intro s hm
  refine ⟨(s.emit .trailer).finish .none .done, by simp only [exec, execTrailer, hm], ?_⟩
  simp [EndedCommand, Moved, SameCodec, SameParams, SameSurroundings, encode, Config.trailer, successOf]

/-! Images without pixels. -/

/-- Settles O20: the loop of `encodes_from_header` has no step. -/
theorem encodeOfNoPixels : Obligations.EncodeOfNoPixels := by
  unfold Obligations.EncodeOfNoPixels
  intro s hp hm hpxi hwh
  have hn : s.width.toNat * s.height.toNat = 0 := by rcases hwh with h | h <;> simp [h]
  obtain ⟨hst, t, ht, htp, htm, -⟩ := encodes_from_header hp hm hpxi (by simp [hn])
  have hrun := run_encode hst ht htp htm
  rw [hn] at ht hrun
  cases ht
  refine ⟨_, hrun, ?_⟩
  simp [State.afterHeader, encode, Config.trailer, Config.magic, be32Bytes, successOf]

/-- Settles O21: after the header the loop is at its end, and the trailer step says how the command ended. -/
theorem decodeOfNoPixels : Obligations.DecodeOfNoPixels := by
  unfold Obligations.DecodeOfNoPixels
  intro s w h c k bs rest hp hm hpxi hwh hlen hahead
  have hn : w.toNat * h.toNat = 0 := by rcases hwh with h | h <;> simp [h]
  rw [List.append_assoc] at hahead
  have hst : step s = .next (s.afterHeaderRead w h c k) :=
    (StepsTo.headerRead hp hm w h c k (bs ++ rest) (by rw [hahead, decode_encode_header])).step
  obtain ⟨hw, hh, hc, hk, -, hph, ⟨hipos, hout, -⟩, -, -, hmode, -⟩ := s.afterHeaderRead_headerDone w h c k
  rw [hn, if_neg (Nat.not_lt_zero _)] at hph
  have htr := step_trailer_decode (bs := bs) (rest := rest) hph (hmode.trans hm) hlen
    (by rw [State.afterHeaderRead_ahead, hahead]; rfl)
  have hsuccess : successOf (if bs = Config.trailer then .none else .badTrailer) = true ↔ bs = [0, 0, 0, 0, 0, 0, 0, 1] := by
    split
    next h => exact iff_of_true rfl h
    next h => exact iff_of_false (by simp [successOf]) h
  refine ⟨_, (run_add_one hst 1).trans (run_one htr), ?_⟩
  simpa [hout, hipos, hw, hh, hc, hk] using hsuccess

end Sys2Proof.Machine

/-! PROOFS. The hash and the deltas (O42 to O45): each operation as a number, and what the encoder's miss chunk is to a decoder
with the same PREV. -/

namespace Sys2Proof.Machine

/-! The hash. -/

/-- The hash as a number (R90). -/
theorem slotOf_toNat (p : Pixel) :
    (slotOf p).toNat = (p.r.toNat * 3 + p.g.toNat * 5 + p.b.toNat * 7 + p.a.toNat * 11) % 64 := BitVec.toNat_ofNat ..

/-- Settles O43: 64 divides 2 ^ k, so the first cut does not change the residue modulo 64. -/
theorem hashIsReducedWeightedSum : Obligations.HashIsReducedWeightedSum := by
  unfold Obligations.HashIsReducedWeightedSum
  intro p
  refine ⟨slotOf_toNat p, fun k hk => ?_⟩
  have hdvd : 64 ∣ 2 ^ k := Nat.pow_dvd_pow 2 hk
  rw [slotOf_toNat, Nat.mod_mod_of_dvd _ hdvd]

/-! The deltas. -/

/-- Wrapped and read back as two's complement, an integer is in −128..127 and the same modulo 256 (R93, R94). -/
theorem sext8_wrap8 (x : Int) :
    -128 ≤ sext8 (wrap8 x) ∧ sext8 (wrap8 x) ≤ 127 ∧ sext8 (wrap8 x) % 256 = x % 256 := by
  have hx : sext8 (wrap8 x) = x.bmod 256 := BitVec.toInt_ofInt ..
  have hlo := Int.le_bmod (x := x) (m := 256) (by decide)
  have hhi := Int.bmod_lt (x := x) (m := 256) (by decide)
  rw [hx]
  exact ⟨hlo, Int.le_of_lt_add_one hhi, Int.bmod_emod⟩

/-- The delta is an integer in −128..127 that takes q to c (R94). -/
theorem isDelta_delta (c q : Byte) : IsDelta c q (delta c q) := by
  obtain ⟨hlo, hhi, hmod⟩ := sext8_wrap8 (c.toNat - q.toNat)
  exact ⟨hlo, hhi, by rw [delta]; omega⟩

/-- Settles O44: LUMA's sum is the delta again. -/
theorem deltaPairIsExact : Obligations.DeltaPairIsExact := by
  unfold Obligations.DeltaPairIsExact
  intro c q
  refine ⟨isDelta_delta c q, applyDelta_delta c q, fun dg => ?_⟩
  rw [sub_add_cancel, applyDelta_delta]

/-! The LUMA test. -/

/-- Both bounds are inclusive (R95). -/
theorem inRange_iff {x lo hi : Int} : inRange x lo hi = true ↔ lo ≤ x ∧ x ≤ hi := decide_eq_true_iff

/-- An integer outside −8..7 that wraps into it is at least 248 or below −248: nearer to 0 the test need not wrap (R95). -/
theorem inRange_sext8_wrap8 {x : Int} (hlo : -248 ≤ x) (hhi : x ≤ 247) :
    inRange (sext8 (wrap8 x)) (-8) 7 = inRange x (-8) 7 := by
  obtain ⟨hwlo, hwhi, hmod⟩ := sext8_wrap8 x
  rw [Bool.eq_iff_iff, inRange_iff, inRange_iff]
  omega

/-- Settles O45: once the green delta is in −32..31, the other two differ from it by 159 at most, too little to wrap into
−8..7 (D22). -/
theorem lumaTestIgnoresWrapping : Obligations.LumaTestIgnoresWrapping := by
  unfold Obligations.LumaTestIgnoresWrapping
  intro c1 q1 c2 q2 c3 q3
  obtain ⟨hrlo, hrhi, -⟩ := isDelta_delta c1 q1
  obtain ⟨hblo, hbhi, -⟩ := isDelta_delta c3 q3
  rw [lumaFits]
  cases hg : inRange (delta c2 q2) (-32) 31 with
  | false => simp only [Bool.false_and]
  | true =>
    obtain ⟨hglo, hghi⟩ := inRange_iff.1 hg
    rw [inRange_sext8_wrap8 (by omega) (by omega), inRange_sext8_wrap8 (by omega) (by omega)]

/-! The chunk of a miss. -/

/-- Settles O42: the step reads back the very chunk that was written, which gives the pixel from the same PREV
(`rebuilds_codeMiss`). -/
theorem emittedChunkRebuildsPixel : Obligations.EmittedChunkRebuildsPixel := by
  unfold Obligations.EmittedChunkRebuildsPixel
  intro s p rest hat hahead
  obtain ⟨hchunk, hwf, hres⟩ := rebuilds_codeMiss s p
  obtain ⟨hpixel, -⟩ := hres s rfl fun _ hq => hq
  have hdec : decode .chunk s.ahead = .ok (codeMiss p s.prev) rest := by rw [hahead, decode_encode_chunk hchunk hwf]
  refine ⟨s.afterChunk (codeMiss p s.prev), (StepsTo.chunk hat _ rest hdec hchunk hwf).step, ?_, ?_, ?_⟩
  · simp [State.afterChunk, hpixel]
  · rw [State.afterChunk_ahead, hahead, ← encode_length, List.drop_left]
  · simp [State.afterChunk, State.finishChunk_output, hpixel]

end Sys2Proof.Machine

/-! PROOFS. The invariants of the codec state (O49) and of the encoder (O52). -/

namespace Sys2Proof.Machine

/-! The codec state. -/

/-- CodecWf speaks of running commands only. -/
theorem State.codecWf_of_ended {s : State} (h : s.ended) : s.CodecWf :=
  fun hr => absurd hr (State.ended_not_running h)

/-- A pixel in the slot of its own hash keeps the history's form (R92, R118 (d), R131 (c)). -/
theorem State.HistWf.of_stored {s t : State} {p : Pixel} (h : s.HistWf) (hst : Stored s t (slotOf p) p) : t.HistWf := by
  intro j
  rw [hst j, ← State.lookup_remember]
  exact State.remember_histWf h p j

/-- A host move stays between commands, or starts one with every slot (0,0,0,0) and RUN 0 (R25). -/
theorem State.hostMove_codecWf {s : State} (h : s.ended) (m : HostMove) : (s.hostMove m).CodecWf := by
  cases m with
  | writeWidth v => exact State.codecWf_of_ended h
  | writeHeight v => exact State.codecWf_of_ended h
  | writeChannels v => exact State.codecWf_of_ended h
  | writeColorspace v => exact State.codecWf_of_ended h
  | startEncode raw => exact fun _ => ⟨s.initCodec_histWf, Nat.zero_le _⟩
  | startDecode stream => exact fun _ => ⟨s.initCodec_histWf, Nat.zero_le _⟩

/-- The run count after a chunk: RUN n leaves n − 1, at most 61; the other chunks keep it (R127, R131 (a)). -/
theorem chunkRun_toNat_le {s : State} {i : Instr} (hs : s.run.toNat ≤ 61) (hw : i.wf = true) :
    (chunkRun s i).toNat ≤ 61 := by
  cases i with
  | run n =>
    simp only [Instr.wf, decide_eq_true_eq] at hw
    rw [chunkRun, BitVec.toNat_ofNat]
    omega
  | rgb | rgba | index | diff | luma | header | trailer | pixel3 | pixel4 => exact hs

/-- A chunk of Decode stores its pixel in that pixel's slot (R128). -/
theorem State.finishChunk_histWf {s : State} (h : s.HistWf) : s.finishChunk.HistWf :=
  h.of_stored s.finishChunk_lookup

/-- A pixel step of Encode keeps the codec state in form: RUN 62 is flushed, and a store goes to the
pixel's slot (R118 (a), (d)). -/
theorem State.encodePixel_histWf_run {s : State} (h : s.HistWf) (hrun : s.run.toNat ≤ 61) (p : Pixel) :
    (s.encodePixel p).HistWf ∧ (s.encodePixel p).run.toNat ≤ 61 := by
  rcases s.encodePixel_cases p with ⟨-, h62, -, hr, hhist, -⟩ | ⟨-, hr, hhist, -⟩ | ⟨hr, hst, -⟩ <;> rw [hr]
  · rw [run_succ_toNat hrun] at h62 ⊢
    exact ⟨State.histWf_of_hist h hhist, by omega⟩
  · exact ⟨State.histWf_of_hist h hhist, Nat.zero_le _⟩
  · exact ⟨h.of_stored hst, Nat.zero_le _⟩

/-- A step of a running command keeps the codec state. -/
theorem StepsTo.codecWf {s t : State} (hs : s.running) (hwf : s.CodecWf) (h : StepsTo s t) : t.CodecWf := by
  obtain ⟨hhist, hrun⟩ := hwf hs
  cases h with
  | waits hw _ => exact absurd hs (State.ended_not_running (hw.imp id .inl))
  | host he => exact absurd hs (State.ended_not_running he)
  | fails site hr r hd => exact State.codecWf_of_ended (raise_ended r s)
  | headerWritten => exact fun _ => ⟨State.histWf_of_hist hhist (by simp), by simpa using hrun⟩
  | headerRead => exact fun _ => ⟨State.histWf_of_hist hhist (by simp), by simpa using hrun⟩
  | chunk hc i rest hd hi hw =>
    exact fun _ => ⟨State.finishChunk_histWf hhist, by simpa using chunkRun_toNat_le hrun hw⟩
  | continues hc =>
    obtain ⟨-, -, -, hr⟩ := hc
    have hpos := run_pos hr
    exact fun _ => ⟨State.histWf_of_hist hhist (by simp), by rw [State.continueRun_run]; bv_omega⟩
  | raw hr i rest hd p =>
    exact fun _ => State.encodePixel_histWf_run (s := s.consume (bytesPerPixel s.channels)) hhist hrun p
  | leaves => exact fun _ => ⟨hhist, hrun⟩
  | trailerWritten => exact State.codecWf_of_ended (.inr (.inl rfl))
  | trailerRead => exact State.codecWf_of_ended (.inr (.inl rfl))

/-- Settles O49: by `StepsTo.codecWf` while a command runs; between commands only a start matters, and it clears HIST
and RUN. -/
theorem stepKeepsCodec : Obligations.StepKeepsCodec := by
  unfold Obligations.StepKeepsCodec
  intro s t hwf h
  rcases s.running_or_ended with hs | hs
  · exact (step_cases h).codecWf hs hwf
  · rcases step_ended_cases hs h with rfl | ⟨m, q, rfl⟩
    · exact hwf
    · exact State.hostMove_codecWf (s := s.setPending q) hs m

/-! The encoder. -/

/-- EncoderWf speaks of running commands only. -/
theorem State.encoderWf_of_ended {s : State} (h : s.ended) : s.EncoderWf :=
  fun hr => absurd hr (State.ended_not_running h)

/-- EncoderWf speaks of Encode only. -/
theorem State.encoderWf_of_decode {s : State} (h : s.mode = .decode) : s.EncoderWf :=
  fun _ hm => nomatch h.symm.trans hm

/-- The last pixel is in its slot, or nothing has been stored and PREV is the initial colour (R118 (c)). -/
def State.PrevKept (s : State) : Prop :=
  (s.prev = Config.initialPrev ∧ ∀ i, s.lookup i = Config.emptySlot) ∨ s.Remembers s.prev

/-- Whether it is there depends on PREV and HIST alone. -/
theorem State.PrevKept.of_same {s t : State} (h : s.PrevKept) (hp : t.prev = s.prev) (hh : t.hist = s.hist) :
    t.PrevKept := by
  simpa only [State.PrevKept, State.Remembers, hp, State.lookup_of_hist hh] using h

/-- A pixel equal to PREV stores nothing; any other one is in its slot after the step (R102, R104, R105). -/
theorem State.PrevKept.encodePixel {s : State} (h : s.PrevKept) (p : Pixel) : (s.encodePixel p).PrevKept := by
  rcases s.encodePixel_cases p with ⟨hp, -, -, -, hhist, -⟩ | ⟨hp, -, hhist, -⟩ | ⟨-, hst, -⟩
  · exact h.of_same (by rw [State.encodePixel_prev, hp]) hhist
  · exact h.of_same (by rw [State.encodePixel_prev, hp]) hhist
  · refine .inr ?_
    rw [State.encodePixel_prev, State.Remembers, hst, if_pos rfl]

/-- The final pixel flushes the run (R15, R102, R118 (e)). -/
theorem State.encodePixel_run_of_trl {s : State} (hl : s.pxi < s.npix) (hp : s.phase = .pix) {p : Pixel}
    (h : (s.encodePixel p).phase = .trl) : (s.encodePixel p).run = 0 := by
  rcases s.encodePixel_cases p with ⟨-, -, hlast, -⟩ | ⟨-, hrun, -⟩ | ⟨hrun, -⟩
  · have hlt : s.pxi + 1 < s.npix := by bv_omega
    rw [State.encodePixel_phase, if_pos hlt, hp] at h
    cases h
  · exact hrun
  · exact hrun

/-- A host move stays between commands, or starts one with the initial PREV, an empty history and RUN 0 (R25). -/
theorem State.hostMove_encoderWf {s : State} (h : s.ended) (m : HostMove) : (s.hostMove m).EncoderWf := by
  cases m with
  | writeWidth v => exact State.encoderWf_of_ended h
  | writeHeight v => exact State.encoderWf_of_ended h
  | writeChannels v => exact State.encoderWf_of_ended h
  | writeColorspace v => exact State.encoderWf_of_ended h
  | startEncode raw => exact fun _ _ => ⟨.inl ⟨rfl, s.lookup_initCodec⟩, fun _ => rfl, fun _ => rfl⟩
  | startDecode stream => exact State.encoderWf_of_decode rfl

/-- A pixel step of Encode keeps the encoder's invariant. -/
theorem State.EncoderWf.encodePixel {s : State} (hwf : s.EncoderWf) (h : s.atRaw) {p : Pixel}
    (ha : s.channels ≠ 4 → p.a = 255) : (s.afterPixel p).EncoderWf := by
  obtain ⟨hp, hm, hl⟩ := h
  obtain ⟨hkept, -, -⟩ := hwf (.inr (.inl hp)) hm
  intro _ _
  refine ⟨State.PrevKept.encodePixel (s := s.consume (bytesPerPixel s.channels)) hkept p, by simpa using ha, ?_⟩
  rintro (hph | hph)
  · rcases State.encodePixel_inLoop (s := s.consume (bytesPerPixel s.channels)) hp p with hin | hin <;>
      cases hph.symm.trans hin
  · exact State.encodePixel_run_of_trl (s := s.consume (bytesPerPixel s.channels)) hl hp hph

/-- A step of a running command keeps the encoder's invariant. -/
theorem StepsTo.encoderWf {s t : State} (hs : s.running) (hloop : s.LoopWf) (hwf : s.EncoderWf) (h : StepsTo s t) :
    t.EncoderWf := by
  cases h with
  | waits hw _ => exact absurd hs (State.ended_not_running (hw.imp id .inl))
  | host he => exact absurd hs (State.ended_not_running he)
  | fails site hr r hd => exact State.encoderWf_of_ended (raise_ended r s)
  | headerWritten hp hm =>
    obtain ⟨hkept, halpha, hrun⟩ := hwf hs hm
    exact fun _ _ => ⟨State.PrevKept.of_same hkept (by simp) (by simp), by simpa using halpha,
      fun _ => by simpa using hrun (.inl hp)⟩
  | headerRead hp hm => exact State.encoderWf_of_decode (by simp [hm])
  | chunk hc =>
    obtain ⟨-, hm, -⟩ := hc
    exact State.encoderWf_of_decode (by simp [hm])
  | continues hc =>
    obtain ⟨-, hm, -⟩ := hc
    exact State.encoderWf_of_decode (by simp [hm])
  | raw hr i rest hd p hi ha => exact hwf.encodePixel hr ha
  | leaves hp hl =>
    obtain ⟨-, hpix, -⟩ := hloop
    obtain ⟨-, hlt⟩ := hpix hp
    exact absurd hlt hl
  | trailerWritten => exact State.encoderWf_of_ended (.inr (.inl rfl))
  | trailerRead => exact State.encoderWf_of_ended (.inr (.inl rfl))

/-- Settles O52: by `StepsTo.encoderWf` while a command runs; between commands only a start of Encode matters, and it sets PREV,
HIST and RUN to their initial values. -/
theorem stepKeepsEncoder : Obligations.StepKeepsEncoder := by
  unfold Obligations.StepKeepsEncoder
  intro s t hloop hwf h
  rcases s.running_or_ended with hs | hs
  · exact (step_cases h).encoderWf hs hloop hwf
  · rcases step_ended_cases hs h with rfl | ⟨m, q, rfl⟩
    · exact hwf
    · exact State.hostMove_encoderWf (s := s.setPending q) hs m

end Sys2Proof.Machine

/-! PROOFS. The pixel step of Encode (O33 to O40): the fetch, what each guard of the cascade writes and stores, and the shape of
all its outputs; and the write side of `exec` (O41). -/

namespace Sys2Proof.Machine

/-! The pixel fetch. -/

/-- RAW4 (R100). -/
theorem step_raw4 {s : State} {r g b a : Byte} {rest : List Byte} (h : s.atRaw) (hc : s.channels = 4)
    (hahead : s.ahead = r :: g :: b :: a :: rest) : step s = .next ((s.consume 4).encodePixel ⟨r, g, b, a⟩) := by
  have ⟨_, hm, _⟩ := h
  have hd : decode .raw4 s.ahead = .ok (.pixel4 r g b a) rest := by rw [hahead]; rfl
  rw [step_fetch_ok (nextMove_reads (site := .raw4) ⟨h, hc⟩) hd]
  exact exec_raw (.inl ⟨rfl, rfl⟩) hm

/-- RAW3, "alpha is implicitly 255 on input" (R100). -/
theorem step_raw3 {s : State} {r g b : Byte} {rest : List Byte} (h : s.atRaw) (hc : s.channels ≠ 4)
    (hahead : s.ahead = r :: g :: b :: rest) : step s = .next ((s.consume 3).encodePixel ⟨r, g, b, 255⟩) := by
  have ⟨_, hm, _⟩ := h
  have hd : decode .raw3 s.ahead = .ok (.pixel3 r g b) rest := by rw [hahead]; rfl
  rw [step_fetch_ok (nextMove_reads (site := .raw3) ⟨h, hc⟩) hd]
  exact exec_raw (.inr ⟨rfl, rfl, rfl⟩) hm

/-- A raw pixel that is cut short is rejected, the bytes there taken (R100, R142). -/
theorem decode_rawSite_short {s : State} {bs : List Byte} (h : bs.length < bytesPerPixel s.channels) :
    decode s.rawSite bs = .reject (.short bs.length) := by
  unfold State.rawSite
  unfold bytesPerPixel at h
  split at h
  next hc =>
    rw [if_pos hc]
    match bs, h with
    | [], _ | [_], _ | [_, _], _ | [_, _, _], _ => rfl
  next hc =>
    rw [if_neg hc]
    match bs, h with
    | [], _ | [_], _ | [_, _], _ => rfl

/-- With fewer than BPP bytes ahead the step takes StreamExhausted (R100, R142). -/
theorem step_raw_short {s : State} (h : s.atRaw) (hlen : s.ahead.length < bytesPerPixel s.channels) :
    step s = .next (raise (.short s.ahead.length) s) :=
  step_fetch_reject (nextMove_reads (State.reads_rawSite h)) (decode_rawSite_short hlen)

/-- Settles O33: the two formats, and the fetch that runs out of input. -/
theorem rawPixelFetch : Obligations.RawPixelFetch := by
  unfold Obligations.RawPixelFetch
  intro s h
  refine ⟨fun r g b a rest hc hahead => ?_, fun r g b rest hc hahead => ?_, fun hlen => ?_⟩
  · exact ⟨_, step_raw4 h hc hahead, by simp, by simp⟩
  · exact ⟨_, step_raw3 h hc hahead, by simp, by simp⟩
  · exact ⟨_, step_raw_short h hlen, raise_short_exhausted _ s⟩

/-! The guards. Each says which bytes the step writes, the RUN it leaves, and what becomes of HIST. -/

/-- The whole next state but HIST, from the bytes written and the RUN left (R101, R116). -/
theorem State.encodePixel_codedPixel {s : State} {p : Pixel} {n : Nat} {bs : List Byte} {run : BitVec 6}
    (hrun : ((s.consume n).encodePixel p).run = run) (hout : ((s.consume n).encodePixel p).output = s.output ++ bs) :
    CodedPixel s ((s.consume n).encodePixel p) n p bs run := by
  obtain ⟨cs, -, hout', hopos⟩ := (s.consume n).encodePixel_moved p
  obtain rfl : bs = cs := List.append_cancel_left (hout.symm.trans hout')
  exact ⟨by simp, hrun, ⟨by simp, hout, hopos⟩, (s.consume n).encodePixel_nextPixel p, by simp [SameParams],
    by simp [SameStatus], by simp [SameSurroundings]⟩

section
variable {s : State} {i : Instr} {p : Pixel} {n : Nat}

/-- Guard 1 without a flush (R102). -/
theorem State.encodePixel_counted (he : p = s.prev) (hn : ¬ ((s.run + 1).toNat = 62 ∨ s.pxi.toNat + 1 = s.npix.toNat)) :
    (s.encodePixel p).hist = s.hist ∧ (s.encodePixel p).run = s.run + 1 ∧ (s.encodePixel p).output = s.output := by
  have hsel : s.selectOpcode p = s.setRun (s.run + 1) := (if_pos he).trans (if_neg hn)
  simp [State.encodePixel, hsel]

/-- Guard 1 with a flush, at 62 or at the final pixel (R102, R110). -/
theorem State.encodePixel_flushed (he : p = s.prev) (hf : (s.run + 1).toNat = 62 ∨ s.pxi.toNat + 1 = s.npix.toNat) :
    (s.encodePixel p).hist = s.hist ∧ (s.encodePixel p).run = 0 ∧
      (s.encodePixel p).output = s.output ++ encode (.run (s.run + 1).toNat) := by
  have hsel : s.selectOpcode p = (s.setRun (s.run + 1)).emitRun := (if_pos he).trans (if_pos hf)
  simp [State.encodePixel, hsel]

/-- Guard 2 on a hit (R103, R104). -/
theorem State.encodePixel_hit (hne : p ≠ s.prev) (hhit : s.Remembers p) :
    (s.encodePixel p).hist = s.hist ∧ (s.encodePixel p).run = 0 ∧
      (s.encodePixel p).output = s.output ++ (flushBytes s.run ++ encode (.index (slotOf p))) := by
  have hhit' : s.flushRun.lookup (slotOf p) = p := (State.lookup_of_hist s.flushRun_hist _).trans hhit
  have hsel : s.selectOpcode p = s.flushRun.emit (.index (slotOf p)) := (if_neg hne).trans (if_pos hhit')
  simp [State.encodePixel, hsel, State.flushRun_run, State.flushRun_output]

/-- Guards 3 to 6, after a miss (R103, R105). -/
theorem State.encodePixel_miss (hne : p ≠ s.prev) (hmiss : ¬ s.Remembers p) :
    Stored s (s.encodePixel p) (slotOf p) p ∧ (s.encodePixel p).run = 0 ∧
      (s.encodePixel p).output = s.output ++ (flushBytes s.run ++ encode (codeMiss p s.prev)) := by
  have hmiss' : ¬ s.flushRun.lookup (slotOf p) = p := by rwa [State.lookup_of_hist s.flushRun_hist]
  have hsel : s.selectOpcode p = (s.flushRun.remember p).emit (codeMiss p s.flushRun.prev) :=
    (if_neg hne).trans (if_neg hmiss')
  refine ⟨fun j => ?_, by simp [State.encodePixel, hsel, State.flushRun_run],
    by simp [State.encodePixel, hsel, State.flushRun_output]⟩
  rw [State.lookup_of_hist (s := s.flushRun.remember p) (by simp [State.encodePixel, hsel]), State.lookup_remember,
    State.lookup_of_hist s.flushRun_hist]

/-- The raw-pixel instruction after a miss: the miss chunk is written behind the pending run's, the pixel stored. -/
theorem exec_raw_miss (hm : s.mode = .encode) (hi : RawPixelOf i p n) (hne : p ≠ s.prev) (hmiss : ¬ s.Remembers p) :
    ∃ t, exec i s = .next t ∧ CodedPixel s t n p (flushBytes s.run ++ encode (codeMiss p s.prev)) 0 ∧
      Stored s t (slotOf p) p := by
  obtain ⟨hst, hrun, hout⟩ := State.encodePixel_miss (s := s.consume n) hne hmiss
  exact ⟨_, exec_raw hi hm, State.encodePixel_codedPixel hrun hout, hst⟩

end

/-- Settles O34: guard 1, with and without the flush; RUN + 1 does not wrap. -/
theorem equalPixelIsCounted : Obligations.EqualPixelIsCounted := by
  unfold Obligations.EqualPixelIsCounted
  intro s i p n hm hi he hle
  have hsucc := run_succ_toNat hle
  refine ⟨_, exec_raw hi hm, ?_⟩
  by_cases hf : s.run.toNat + 1 = 62 ∨ s.pxi.toNat + 1 = s.npix.toNat
  · obtain ⟨hhist, hrun, hout⟩ := State.encodePixel_flushed (s := s.consume n) he (hsucc ▸ hf)
    have hbytes : encode (.run (s.run + 1).toNat) = [BitVec.ofNat 8 (0xc0 + s.run.toNat)] := by
      rw [hsucc]
      rfl
    rw [if_pos hf, ← hbytes]
    exact ⟨hhist, State.encodePixel_codedPixel hrun hout⟩
  · obtain ⟨hhist, hrun, hout⟩ := State.encodePixel_counted (s := s.consume n) he (hsucc ▸ hf)
    rw [if_neg hf]
    exact ⟨hhist, State.encodePixel_codedPixel rfl (by rw [hout]; simp), by rw [hrun]; exact hsucc⟩

/-- Settles O35: guard 2 on a hit. -/
theorem historyHitIsIndexed : Obligations.HistoryHitIsIndexed := by
  unfold Obligations.HistoryHitIsIndexed
  intro s i p n hm hi hne hhit
  obtain ⟨hhist, hrun, hout⟩ := State.encodePixel_hit (s := s.consume n) hne hhit
  obtain ⟨b, he, hb⟩ := encode_index_toNat (slotOf p)
  rw [he] at hout
  exact ⟨_, b, exec_raw hi hm, State.encodePixel_codedPixel hrun hout, hb, hhist⟩

/-- Settles O36: guard 3; a changed alpha is a changed pixel. -/
theorem changedAlphaIsLiteral : Obligations.ChangedAlphaIsLiteral := by
  unfold Obligations.ChangedAlphaIsLiteral
  intro s i p n hm hi hmiss ha
  have hcode : codeMiss p s.prev = .rgba p.r p.g p.b p.a := if_pos ha
  have h := exec_raw_miss hm hi (fun he => ha (by rw [he])) hmiss
  rwa [hcode] at h

/-! The deltas of guards 4 to 6. -/

/-- Two channels have one delta (R94). -/
theorem IsDelta.eq_delta {c q : Byte} {d : Int} (h : IsDelta c q d) : d = delta c q := by
  obtain ⟨hlo, hhi, hmod⟩ := h
  obtain ⟨hlo', hhi', hmod'⟩ := isDelta_delta c q
  omega

/-- A channel differs from itself by 0 (R94). -/
theorem delta_self (c : Byte) : delta c c = 0 := by
  have := c.isLt
  exact (IsDelta.eq_delta ⟨by decide, by decide, by omega⟩).symm

/-- The DIFF condition (R95, R107). -/
theorem diffFits_iff {dr dg db : Int} :
    diffFits dr dg db = true ↔ -2 ≤ dr ∧ dr ≤ 1 ∧ -2 ≤ dg ∧ dg ≤ 1 ∧ -2 ≤ db ∧ db ≤ 1 := by
  simp only [diffFits, Bool.and_eq_true, inRange_iff, and_assoc]

/-- The LUMA condition (R95, R108). -/
theorem lumaFits_iff {dr dg db : Int} :
    lumaFits dr dg db = true ↔
      -32 ≤ dg ∧ dg ≤ 31 ∧ -8 ≤ dr - dg ∧ dr - dg ≤ 7 ∧ -8 ≤ db - dg ∧ db - dg ≤ 7 := by
  simp only [lumaFits, Bool.and_eq_true, inRange_iff, and_assoc]

/-- Pixels whose deltas do not fit DIFF differ: three zeros would fit. -/
theorem ne_of_not_diffFits {p q : Pixel} (h : ¬ diffFits (delta p.r q.r) (delta p.g q.g) (delta p.b q.b) = true) :
    p ≠ q := by
  rintro rfl
  simp only [delta_self] at h
  exact h (by decide)

/-- Guard 4 (R107). -/
theorem codeMiss_eq_diff {p q : Pixel} (ha : p.a = q.a)
    (hd : diffFits (delta p.r q.r) (delta p.g q.g) (delta p.b q.b) = true) :
    codeMiss p q = .diff (delta p.r q.r) (delta p.g q.g) (delta p.b q.b) :=
  (if_neg (not_not_intro ha)).trans (if_pos hd)

/-- Guard 5 (R108). -/
theorem codeMiss_eq_luma {p q : Pixel} (ha : p.a = q.a)
    (hd : ¬ diffFits (delta p.r q.r) (delta p.g q.g) (delta p.b q.b) = true)
    (hl : lumaFits (delta p.r q.r) (delta p.g q.g) (delta p.b q.b) = true) :
    codeMiss p q = .luma (delta p.g q.g) (delta p.r q.r - delta p.g q.g) (delta p.b q.b - delta p.g q.g) :=
  (if_neg (not_not_intro ha)).trans ((if_neg hd).trans (if_pos hl))

/-- Guard 6 (R109). -/
theorem codeMiss_eq_rgb {p q : Pixel} (ha : p.a = q.a)
    (hd : ¬ diffFits (delta p.r q.r) (delta p.g q.g) (delta p.b q.b) = true)
    (hl : ¬ lumaFits (delta p.r q.r) (delta p.g q.g) (delta p.b q.b) = true) :
    codeMiss p q = .rgb p.r p.g p.b :=
  (if_neg (not_not_intro ha)).trans ((if_neg hd).trans (if_neg hl))

/-- Settles O37: guard 4. -/
theorem smallDeltasAreDiff : Obligations.SmallDeltasAreDiff := by
  unfold Obligations.SmallDeltasAreDiff
  intro s i p n dr dg db hm hi hne hmiss ha hr hg hb hd
  obtain rfl := hr.eq_delta
  obtain rfl := hg.eq_delta
  obtain rfl := hb.eq_delta
  have hd' := diffFits_iff.2 hd
  obtain ⟨t, ht, hcoded, hst⟩ := exec_raw_miss hm hi hne hmiss
  obtain ⟨b, he, hbyte⟩ := encode_diff_toNat (wf_of_diffFits hd')
  rw [codeMiss_eq_diff ha hd', he] at hcoded
  exact ⟨t, b, ht, hcoded, hbyte, hst⟩

/-- Settles O38: guard 5. -/
theorem mediumDeltasAreLuma : Obligations.MediumDeltasAreLuma := by
  unfold Obligations.MediumDeltasAreLuma
  intro s i p n dr dg db hm hi hmiss ha hr hg hb hd hl
  obtain rfl := hr.eq_delta
  obtain rfl := hg.eq_delta
  obtain rfl := hb.eq_delta
  have hd' := mt diffFits_iff.1 hd
  have hl' := lumaFits_iff.2 hl
  obtain ⟨t, ht, hcoded, hst⟩ := exec_raw_miss hm hi (ne_of_not_diffFits hd') hmiss
  obtain ⟨b1, b2, he, hb1, hb2⟩ := encode_luma_toNat (wf_of_lumaFits hl')
  rw [codeMiss_eq_luma ha hd' hl', he] at hcoded
  exact ⟨t, b1, b2, ht, hcoded, hb1, hb2, hst⟩

/-- Settles O39: guard 6. -/
theorem otherPixelsAreRgb : Obligations.OtherPixelsAreRgb := by
  unfold Obligations.OtherPixelsAreRgb
  intro s i p n dr dg db hm hi hmiss ha hr hg hb hd hl
  obtain rfl := hr.eq_delta
  obtain rfl := hg.eq_delta
  obtain rfl := hb.eq_delta
  have hd' := mt diffFits_iff.1 hd
  have h := exec_raw_miss hm hi (ne_of_not_diffFits hd') hmiss
  rwa [codeMiss_eq_rgb ha hd' (mt lumaFits_iff.1 hl)] at h

/-! The shape of the output. -/

/-- A flush is nothing or one well-formed RUN chunk (R103, R110). -/
theorem flushBytes_cases {run : BitVec 6} (h : run.toNat ≤ 62) :
    flushBytes run = [] ∨ ∃ n, 1 ≤ n ∧ n ≤ 62 ∧ flushBytes run = encode (.run n) := by
  by_cases h0 : run = 0
  · exact .inl (if_pos h0)
  · exact .inr ⟨run.toNat, run_pos h0, h, if_neg h0⟩

/-- The chunks that stand for a pixel differing from PREV: any well-formed one but RUN, and not the DIFF that changes nothing
(R66, R101). -/
def CodesChange (i : Instr) : Prop :=
  i.isChunk = true ∧ i.wf = true ∧ (∀ n, i ≠ .run n) ∧ i ≠ .diff 0 0 0

theorem codesChange_index (k : BitVec 6) : CodesChange (.index k) :=
  ⟨rfl, rfl, nofun, nofun⟩

/-- Three deltas of 0 give PREV again (R66, R97). -/
theorem applyDeltas_zero (q : Pixel) : applyDeltas q 0 0 0 = q := by
  simpa only [delta_self] using applyDeltas_delta (rfl : q.a = q.a)

/-- A DIFF of three zeros would make the pixel PREV (R66, R107). -/
theorem codesChange_codeMiss {p q : Pixel} (hne : p ≠ q) : CodesChange (codeMiss p q) := by
  rcases codeMiss_cases p q with ⟨-, h⟩ | ⟨ha, hd, h⟩ | ⟨-, -, hl, h⟩ | ⟨-, -, -, h⟩ <;> rw [h]
  · exact ⟨rfl, rfl, nofun, nofun⟩
  · refine ⟨rfl, wf_of_diffFits hd, nofun, fun hz => hne ?_⟩
    obtain ⟨hr, hg, hb⟩ := Instr.diff.inj hz
    have hp := applyDeltas_delta ha
    rw [hr, hg, hb, applyDeltas_zero] at hp
    exact hp.symm
  · exact ⟨rfl, wf_of_lumaFits hl, nofun, nofun⟩
  · exact ⟨rfl, rfl, nofun, nofun⟩

/-- What the cascade writes: nothing or one RUN chunk, then nothing or one chunk that codes a change (R101). -/
theorem State.encodePixel_output_cases {s : State} (hle : s.run.toNat ≤ 61) (p : Pixel) :
    ∃ f c, (s.encodePixel p).output = s.output ++ (f ++ c) ∧
      (f = [] ∨ ∃ n, 1 ≤ n ∧ n ≤ 62 ∧ f = encode (.run n)) ∧
      (c = [] ∨ ∃ i : Instr, CodesChange i ∧ (encode i).length ≤ 5 ∧ c = encode i) := by
  have hsucc := run_succ_toNat hle
  by_cases he : p = s.prev
  · by_cases hf : (s.run + 1).toNat = 62 ∨ s.pxi.toNat + 1 = s.npix.toNat
    · obtain ⟨-, -, hout⟩ := State.encodePixel_flushed he hf
      exact ⟨_, [], by rw [hout, List.append_nil], .inr ⟨_, by omega, by omega, rfl⟩, .inl rfl⟩
    · obtain ⟨-, -, hout⟩ := State.encodePixel_counted he hf
      exact ⟨[], [], by simp [hout], .inl rfl, .inl rfl⟩
  · have hflush := flushBytes_cases (run := s.run) (by omega)
    by_cases hhit : s.Remembers p
    · obtain ⟨-, -, hout⟩ := State.encodePixel_hit he hhit
      exact ⟨_, _, hout, hflush, .inr ⟨_, codesChange_index _, by simp [encode], rfl⟩⟩
    · obtain ⟨-, -, hout⟩ := State.encodePixel_miss he hhit
      exact ⟨_, _, hout, hflush, .inr ⟨_, codesChange_codeMiss he, encode_codeMiss_length_le p s.prev, rfl⟩⟩

/-- Settles O40: the step that does not run out of input codes a pixel, and `State.encodePixel_output_cases` says what it
writes. -/
theorem encoderStepShape : Obligations.EncoderStepShape := by
  unfold Obligations.EncoderStepShape
  intro s t h hle hst hf
  rcases Nat.lt_or_ge s.ahead.length (bytesPerPixel s.channels) with hlen | hlen
  · rw [step_raw_short h hlen] at hst
    cases hst
    exact absurd rfl hf
  · obtain ⟨p, -, hst'⟩ := step_raw h hlen
    rw [hst'] at hst
    cases hst
    obtain ⟨f, c, hout, hfl, hch⟩ := (s.consume (bytesPerPixel s.channels)).encodePixel_output_cases hle p
    refine ⟨f, c, by rw [List.append_assoc]; exact hout, ?_, hfl, ?_⟩
    · have hf1 : f.length ≤ 1 := by
        rcases hfl with rfl | ⟨n, -, -, rfl⟩ <;> simp [encode]
      have hc5 : c.length ≤ 5 := by
        rcases hch with rfl | ⟨i, -, hi5, rfl⟩
        · simp
        · exact hi5
      rw [List.length_append]
      omega
    · rcases hch with hc | ⟨i, ⟨hchunk, hwf, hrun, hdiff⟩, -, hc⟩
      · exact .inl hc
      · exact .inr ⟨i, hchunk, hwf, hrun, hdiff, hc⟩

/-! The write side of `exec`. -/

/-- Where an instruction is written, not read: a chunk in Encode, a raw pixel in Decode (R104, R106 to R110, R129). -/
abbrev IsWritten (i : Instr) (m : Mode) : Prop :=
  (m = .encode ∧ i.isChunk = true) ∨ (m = .decode ∧ (i.site = .raw3 ∨ i.site = .raw4))

/-- A written instruction other than RUN is its emission (R104, R106 to R109, R129). -/
theorem exec_written {s : State} {i : Instr} (h : IsWritten i s.mode) (hrun : ∀ n, i ≠ .run n) :
    exec i s = .next (s.emit i) := by
  rcases h with ⟨hm, hi⟩ | ⟨hm, hi⟩
  · cases i with
    | rgb | rgba | index | diff | luma => simp only [exec, execRgb, execRgba, execIndex, execDiff, execLuma, hm]
    | run n => exact absurd rfl (hrun n)
    | header | trailer | pixel3 | pixel4 => simp [Instr.isChunk] at hi
  · cases i with
    | pixel3 | pixel4 => simp only [exec, execPixel3, execPixel4, hm]
    | rgb | rgba | index | diff | luma | run | header | trailer => simp [Instr.site] at hi

/-- A written RUN sets RUN to 0 too (R110); it is written in Encode only. -/
theorem exec_written_run {s : State} {n : Nat} (h : IsWritten (.run n) s.mode) :
    exec (.run n) s = .next (s.emitRunOf n) := by
  rcases h with ⟨hm, -⟩ | ⟨-, hi⟩
  · simp only [exec, execRun, hm]
  · simp [Instr.site] at hi

/-- Settles O41: the emission (`exec_written`), and for RUN the count set to 0 (`exec_written_run`). -/
theorem writtenRecordIsAppended : Obligations.WrittenRecordIsAppended := by
  unfold Obligations.WrittenRecordIsAppended
  intro s i h
  by_cases hrun : ∃ n, i = .run n
  · obtain ⟨n, rfl⟩ := hrun
    refine ⟨_, exec_written_run h, ?_⟩
    simp [Moved, SameParams, SameStatus, SameSurroundings, encode]
  · have hne : ∀ n, i ≠ .run n := not_exists.1 hrun
    refine ⟨_, exec_written h hne, ?_⟩
    simp [Moved, SameParams, SameStatus, SameSurroundings, hne]

end Sys2Proof.Machine

/-! PROOFS. The pixel step of Decode (O22 to O32): the state after a chunk and after a run continuation, each said once, and a
whole RUN chunk. -/

namespace Sys2Proof.Machine

/-! A chunk. -/

/-- All of the state after a chunk (R119, R128, R129). -/
theorem State.afterChunk_resolvedChunk (s : State) (i : Instr) :
    ResolvedChunk s (s.afterChunk i) i.length (chunkPixel s i) (chunkRun s i) := by
  unfold State.afterChunk
  refine ⟨by simp, by simp, fun j => State.finishChunk_lookup _ j,
    ⟨by simp, State.finishChunk_output _, State.finishChunk_opos _⟩, State.finishChunk_nextPixel _, ?_, ?_, ?_⟩
  · simp [SameParams]
  · simp [SameStatus]
  · simp [SameSurroundings]

theorem exec_resolvedChunk {i : Instr} {s : State} (hi : i.isChunk = true) (hm : s.mode = .decode) :
    ∃ t, exec i s = .next t ∧ ResolvedChunk s t i.length (chunkPixel s i) (chunkRun s i) :=
  ⟨s.afterChunk i, exec_chunk hi hm, s.afterChunk_resolvedChunk i⟩

/-- The chunk at the cursor is run (R121). -/
theorem step_chunk {s : State} {bs rest : List Byte} {i : Instr} (h : s.atChunk) (hahead : s.ahead = bs)
    (hd : decode .chunk bs = .ok i rest) : step s = exec i s :=
  step_fetch_ok (nextMove_reads (site := .chunk) h) (hahead ▸ hd)

/-- A chunk cut short is StreamExhausted (R142). -/
theorem step_chunk_short {s : State} {bs : List Byte} {n : Nat} (h : s.atChunk) (hahead : s.ahead = bs)
    (hd : decode .chunk bs = .reject (.short n)) : ∃ t, step s = .next t ∧ Exhausted s t n :=
  ⟨_, step_fetch_reject (nextMove_reads (site := .chunk) h) (hahead ▸ hd), raise_short_exhausted n s⟩

/-! The arms. -/

/-- Settles O22: the arm by `exec_resolvedChunk`, its bytes by `decode_chunk_rgb` and `decode_chunk_rgb_short`. -/
theorem rgbInDecode : Obligations.RgbInDecode := by
  unfold Obligations.RgbInDecode
  intro s hm
  exact ⟨fun _ _ _ => exec_resolvedChunk rfl hm,
    fun r g b rest h hahead => step_chunk h hahead (decode_chunk_rgb r g b rest),
    fun os h hahead hlen => step_chunk_short h hahead (decode_chunk_rgb_short hlen)⟩

/-- Settles O23: as O22; `chunkPixel` does not look at CHANNELS. -/
theorem rgbaInDecode : Obligations.RgbaInDecode := by
  unfold Obligations.RgbaInDecode
  intro s hm
  exact ⟨fun _ _ _ _ => exec_resolvedChunk rfl hm,
    fun r g b a rest h hahead => step_chunk h hahead (decode_chunk_rgba r g b a rest),
    fun os h hahead hlen => step_chunk_short h hahead (decode_chunk_rgba_short hlen)⟩

/-- Settles O24: `chunkPixel` looks the slot up in the state before the store. -/
theorem indexInDecode : Obligations.IndexInDecode := by
  unfold Obligations.IndexInDecode
  intro s i hm
  refine ⟨exec_resolvedChunk rfl hm, fun b rest h hahead hb => ?_⟩
  have hi : BitVec.ofNat 6 b.toNat = i := by rw [hb, BitVec.ofNat_toNat, BitVec.setWidth_eq]
  rw [← hi]
  exact step_chunk h hahead (decode_chunk_index (by have := i.isLt; omega) rest)

/-- A reconstructed channel as a number (R96). -/
theorem applyDelta_toNat (q : Byte) (d : Int) : ((applyDelta q d).toNat : Int) = ((q.toNat : Int) + d) % 256 := by
  rw [applyDelta, wrap8, BitVec.toNat_ofInt]
  omega

/-- Settles O25: each channel by `applyDelta_toNat`. -/
theorem diffInDecode : Obligations.DiffInDecode := by
  unfold Obligations.DiffInDecode
  intro s hm
  refine ⟨fun dr dg db => ?_, fun b rest h hahead hlo hhi => step_chunk h hahead (decode_chunk_diff hlo hhi rest)⟩
  obtain ⟨t, ht, hres⟩ := exec_resolvedChunk (i := .diff dr dg db) rfl hm
  exact ⟨t, _, ht, hres, applyDelta_toNat _ _, applyDelta_toNat _ _, applyDelta_toNat _ _, rfl⟩

/-- Settles O26: each channel by `applyDelta_toNat`, red and blue with the sum of two deltas. -/
theorem lumaInDecode : Obligations.LumaInDecode := by
  unfold Obligations.LumaInDecode
  intro s hm
  refine ⟨fun dg drDg dbDg => ?_,
    fun b n rest h hahead hlo hhi => step_chunk h hahead (decode_chunk_luma hlo hhi n rest),
    fun b h hahead hlo hhi => step_chunk_short h hahead (decode_chunk_luma_short hlo hhi)⟩
  obtain ⟨t, ht, hres⟩ := exec_resolvedChunk (i := .luma dg drDg dbDg) rfl hm
  rw [add_assoc, add_assoc]
  exact ⟨t, _, ht, hres, applyDelta_toNat _ _, applyDelta_toNat _ _, applyDelta_toNat _ _, rfl⟩

/-- RUN's field, one less than the run length, fits its register (R127). -/
theorem chunkRun_run_toNat (s : State) {n : Nat} (h : n ≤ 62) : (chunkRun s (.run n)).toNat = n - 1 := by
  rw [chunkRun, BitVec.toNat_ofNat]
  omega

theorem decode_chunk_run_length {b : Byte} {n : Nat} (h1 : 1 ≤ n) (h62 : n ≤ 62) (hb : b.toNat = 0xc0 + (n - 1))
    (rest : List Byte) : decode .chunk (b :: rest) = .ok (.run n) rest := by
  have hn : b.toNat - 0xc0 + 1 = n := by omega
  rw [decode_chunk_run (by omega) (by omega), hn]

/-- Settles O27: the store and the output are those of every chunk (D7). -/
theorem runInDecode : Obligations.RunInDecode := by
  unfold Obligations.RunInDecode
  intro s n hm h1 h62
  refine ⟨?_, fun b rest h hahead hb => step_chunk h hahead (decode_chunk_run_length h1 h62 hb rest)⟩
  obtain ⟨t, ht, hres⟩ := exec_resolvedChunk (i := .run n) rfl hm
  have ⟨_, hrun, _⟩ := hres
  exact ⟨t, ht, by rw [hrun]; exact hres, by rw [hrun, chunkRun_run_toNat s h62]⟩

/-! A run continuation. -/

/-- All of the state after a run continuation, which neither IN nor IPOS enters (R120). -/
theorem State.continueRun_eq (s : State) :
    s.continueRun =
      { s with
        run := s.run - 1
        output := s.output ++ rawBytes s.channels s.prev
        opos := s.opos + (rawBytes s.channels s.prev).length
        pxi := s.pxi + 1
        phase := if s.pxi + 1 < s.npix then s.phase else .trl } := by
  ext1 <;> simp [State.continueRun_output, State.continueRun_opos, State.continueRun_phase]

theorem step_continuation {s : State} (h : s.atContinuation) : step s = .next s.continueRun :=
  (StepsTo.continues h).step

/-- RUN − 1 does not wrap while a run is owed (R120). -/
theorem run_pred_toNat {v : BitVec 6} (h : v ≠ 0) : (v - 1).toNat + 1 = v.toNat := by
  have hpos := run_pos h
  bv_omega

theorem State.continueRun_run_toNat {s : State} (h : s.run ≠ 0) : s.continueRun.run.toNat + 1 = s.run.toNat := by
  rw [State.continueRun_run, run_pred_toNat h]

/-- Settles O29: `State.continueRun_eq`, from the state and from the state with another input. -/
theorem runContinuation : Obligations.RunContinuation := by
  unfold Obligations.RunContinuation
  intro s h
  have ⟨_, _, _, hr⟩ := h
  refine ⟨_, step_continuation h, State.continueRun_run_toNat hr, by simp, by simp,
    ⟨by simp, s.continueRun_output, s.continueRun_opos⟩, s.continueRun_nextPixel, by simp [SameParams],
    by simp [SameStatus], by simp [SameSurroundings], fun bs k => ?_⟩
  rw [step_continuation (s := { s with input := bs, ipos := k }) h, State.continueRun_eq, State.continueRun_eq]

/-! Every pixel step. -/

/-- Settles O30: the store of `State.afterChunk_resolvedChunk`, at the pixel's own slot and at every other. -/
theorem historyStoreAfterEveryChunk : Obligations.HistoryStoreAfterEveryChunk := by
  unfold Obligations.HistoryStoreAfterEveryChunk
  refine ⟨fun s i rest h hd => ?_, fun s h => ⟨_, step_continuation h, s.continueRun_hist⟩⟩
  have ⟨_, hm, _, _⟩ := h
  obtain ⟨hi, -⟩ := decodeChunk_ok hd
  obtain ⟨t, ht, hprev, -, hst, -⟩ := exec_resolvedChunk hi hm
  refine ⟨t, (step_chunk h rfl hd).trans ht, ?_⟩
  rw [hprev]
  exact ⟨by rw [hst, if_pos rfl], fun j hj => by rw [hst, if_neg hj]⟩

/-- Settles O31: a run continuation, or a chunk; a chunk that does not decode ends in FAULT. -/
theorem decoderStepEmitsOnePixel : Obligations.DecoderStepEmitsOnePixel := by
  unfold Obligations.DecoderStepEmitsOnePixel
  intro s t hp hm hl hst hf
  by_cases hr : s.run = 0
  · have h : s.atChunk := ⟨hp, hm, hl, hr⟩
    cases hd : decode .chunk s.ahead with
    | ok i rest =>
      obtain ⟨hi, -⟩ := decodeChunk_ok hd
      obtain ⟨u, hu, hprev, -, -, ⟨hipos, hout, -⟩, -⟩ := exec_resolvedChunk hi hm
      rw [step_chunk h rfl hd, hu] at hst
      cases hst
      rw [← hprev] at hout
      exact ⟨hout, fun hne => absurd hr hne, fun _ => ⟨i, rest, rfl, hipos⟩⟩
    | reject r =>
      obtain ⟨n, rfl⟩ := decode_pixel_reject_short (by simp) (by simp) hd
      rw [step_fetch_reject (nextMove_reads (site := .chunk) h) hd] at hst
      cases hst
      exact absurd rfl hf
  · rw [step_continuation ⟨hp, hm, hl, hr⟩] at hst
    cases hst
    exact ⟨by rw [State.continueRun_prev]; exact s.continueRun_output, fun _ => s.continueRun_ipos, fun h0 => absurd h0 hr⟩

/-! A whole RUN chunk. -/

/-- k pixels equal to PREV have been delivered: n bytes read for them, no run left. -/
def Repeated (k n : Nat) (s t : State) : Prop :=
  t.output = s.output ++ (List.replicate k (rawBytes s.channels s.prev)).flatten ∧ t.ipos = s.ipos + n ∧ t.run = 0 ∧
  t.prev = s.prev ∧ t.pxi.toNat = s.pxi.toNat + k

/-- One more pixel in front, by a step that kept PREV. -/
theorem Repeated.of_pixel {s u t : State} {k m n : Nat} (hl : s.pxi < s.npix) (hprev : u.prev = s.prev)
    (hmv : Moved s u m (rawBytes s.channels s.prev)) (hn : NextPixel s u) (hc : u.channels = s.channels)
    (h : Repeated k n u t) : Repeated (k + 1) (m + n) s t := by
  obtain ⟨hipos, hout, -⟩ := hmv
  obtain ⟨hpxi, -⟩ := hn
  obtain ⟨hout', hipos', hrun, hprev', hpxi'⟩ := h
  rw [hpxi, pxi_succ_toNat hl] at hpxi'
  refine ⟨?_, by omega, hrun, hprev'.trans hprev, by omega⟩
  rw [hout', hout, hc, hprev, List.replicate_succ, List.flatten_cons, List.append_assoc]

/-- The run continuations of a pending run deliver it and read nothing, when the image has the room (R120). -/
theorem run_continuations {k : Nat} {s : State} (hm : s.mode = .decode)
    (hp : s.phase = if s.pxi < s.npix then .pix else .trl) (hk : s.run.toNat = k)
    (hfit : s.pxi.toNat + k ≤ s.npix.toNat) : ∃ t, core.run k s = .next t ∧ Repeated k 0 s t := by
  induction k generalizing s with
  | zero => exact ⟨s, rfl, by simp, rfl, BitVec.eq_of_toNat_eq hk, rfl, rfl⟩
  | succ k ih =>
    have hl : s.pxi < s.npix := BitVec.lt_def.2 (by omega)
    have hr : s.run ≠ 0 := fun h0 => by simp [h0] at hk
    rw [if_pos hl] at hp
    have hpred := State.continueRun_run_toNat hr
    obtain ⟨t, ht, hrep⟩ := ih (s := s.continueRun) (by simp [hm]) (by simp [State.continueRun_phase, hp]) (by omega)
      (by rw [State.continueRun_pxi, State.continueRun_npix, pxi_succ_toNat hl]; omega)
    exact ⟨t, (run_add_one (step_continuation ⟨hp, hm, hl, hr⟩) k).trans ht,
      hrep.of_pixel hl (by simp) ⟨by simp, s.continueRun_output, s.continueRun_opos⟩ s.continueRun_nextPixel (by simp)⟩

/-- Settles O28: the step that reads the chunk delivers one pixel, the continuations of the n − 1 it leaves in RUN the
others. -/
theorem runChunkProducesItsLength : Obligations.RunChunkProducesItsLength := by
  unfold Obligations.RunChunkProducesItsLength
  intro s n b rest h h1 h62 hb hahead hfit
  have ⟨hp, hm, hl, _⟩ := h
  obtain ⟨u, hu, hprev, hrun, -, hmv, hn, ⟨-, -, hc, -⟩, -⟩ := exec_resolvedChunk (i := .run n) rfl hm
  have hst : step s = .next u := (step_chunk h hahead (decode_chunk_run_length h1 h62 hb rest)).trans hu
  have ⟨hpxi, hphase, hmode, hnpix⟩ := hn
  obtain ⟨k, rfl⟩ : ∃ k, n = k + 1 := ⟨n - 1, by omega⟩
  obtain ⟨t, ht, hrep⟩ := run_continuations (k := k) (s := u) (hmode.trans hm) (by rw [hphase, hpxi, hnpix, hp])
    (by rw [hrun, chunkRun_run_toNat s h62]; rfl) (by rw [hpxi, hnpix, pxi_succ_toNat hl]; omega)
  exact ⟨t, (run_add_one hst k).trans ht, hrep.of_pixel hl hprev hmv hn hc⟩

/-! A run longer than the image. -/

/-- Settles O32: the loop test counts pixels only, and neither the trailer read nor its failure looks at RUN. -/
theorem leftoverRunIsDropped : Obligations.LeftoverRunIsDropped := by
  unfold Obligations.LeftoverRunIsDropped
  constructor
  · intro s h hlast
    have ⟨_, _, hl, hr⟩ := h
    have hend : ¬ s.pxi + 1 < s.npix := by
      rw [BitVec.lt_def, pxi_succ_toNat hl]
      omega
    exact ⟨_, step_continuation h, by rw [State.continueRun_phase, if_neg hend], State.continueRun_run_toNat hr,
      s.continueRun_ipos⟩
  · intro s t v hp hm hst hdone
    cases hd : decode .trailer s.ahead with
    | ok i rest =>
      obtain rfl := decodeTrailer_ok hd
      rw [(StepsTo.trailerRead hp hm rest hd).step] at hst
      cases hst
      exact (StepsTo.trailerRead (s := s.setRun v) hp hm rest hd).step
    | reject r =>
      rw [step_fetch_reject (nextMove_reads (site := .trailer) ⟨hp, hm⟩) hd] at hst
      cases hst
      rcases decodeTrailer_reject hd with rfl | ⟨n, rfl⟩
      · exact step_fetch_reject (nextMove_reads (s := s.setRun v) (site := .trailer) ⟨hp, hm⟩) hd
      · exact absurd hdone (by simp [raise])

end Sys2Proof.Machine

/-! PROOFS. The end of the input at every read that can fail (O9), and a host without a move (O13). -/

namespace Sys2Proof.Machine

/-! The end of the input. Each read that fails is a `Reject.short`, and the sequencer takes it in the same step. -/

/-- A read that runs out of input, at whatever site, is StreamExhausted at the failing read (R140, R142). -/
theorem State.Reads.step_exhausted {s : State} {site : Site} {n : Nat} (h : s.Reads site)
    (hd : decode site s.ahead = .reject (.short n)) : ∃ t, step s = .next t ∧ Exhausted s t n :=
  ⟨_, step_fetch_reject (nextMove_reads h) hd, raise_short_exhausted n s⟩

/-- The magic is read byte by byte before it is compared (R78). -/
theorem decode_header_magic_short {bs : List Byte} (h : bs.length < 4) : decode .header bs = .reject (.short bs.length) := by
  match bs, h with
  | [], _ | [_], _ | [_, _], _ | [_, _, _], _ => rfl

/-- Where the reads of the fields stop (R79, R142): the two words whole or not at all, then byte by byte. -/
theorem headerStop_eq {n : Nat} (h : n < 10) : headerStop n = if n < 4 then 4 else if n < 8 then 8 else 4 + n := by
  unfold headerStop
  split_ifs <;> omega

theorem decode_header_fields_short {fs : List Byte} (h : fs.length < 10) :
    decode .header ([0x71, 0x6f, 0x69, 0x66] ++ fs) =
      .reject (.short (if fs.length < 4 then 4 else if fs.length < 8 then 8 else 4 + fs.length)) := by
  have hfields : decode .header ([0x71, 0x6f, 0x69, 0x66] ++ fs) = decodeFields fs := rfl
  rw [hfields, ← headerStop_eq h, decodeFields.eq_def]
  split
  · simp only [List.length_cons] at h
    omega
  · rfl

/-- The trailer is read before it is compared (R82). -/
theorem decode_trailer_short {bs : List Byte} (h : bs.length < 8) : decode .trailer bs = .reject (.short bs.length) :=
  if_pos h

/-- Settles O9: each clause names the site that is read and the rejection its bytes get. -/
theorem shortInputRaisesStreamExhausted : Obligations.ShortInputRaisesStreamExhausted := by
  unfold Obligations.ShortInputRaisesStreamExhausted
  intro s
  refine ⟨fun ⟨hp, hm, hlen⟩ => ?magic, fun fs ⟨hp, hm, hahead, hlen⟩ => ?fields, fun ⟨h, hahead⟩ => ?tag,
    fun os ⟨h, hahead, hlen⟩ => ?rgb, fun os ⟨h, hahead, hlen⟩ => ?rgba, fun b ⟨h, hahead, hlo, hhi⟩ => ?luma,
    fun ⟨hp, hm, hlen⟩ => ?trailer, fun ⟨h, hlen⟩ => ?raw⟩
  case magic => exact State.Reads.step_exhausted (site := .header) ⟨hp, hm⟩ (decode_header_magic_short hlen)
  case fields => exact State.Reads.step_exhausted (site := .header) ⟨hp, hm⟩ (hahead ▸ decode_header_fields_short hlen)
  case tag => exact step_chunk_short h hahead rfl
  case rgb => exact step_chunk_short h hahead (decode_chunk_rgb_short hlen)
  case rgba => exact step_chunk_short h hahead (decode_chunk_rgba_short hlen)
  case luma => exact step_chunk_short h hahead (decode_chunk_luma_short hlo hhi)
  case trailer => exact State.Reads.step_exhausted (site := .trailer) ⟨hp, hm⟩ (decode_trailer_short hlen)
  case raw => exact (State.reads_rawSite h).step_exhausted (decode_rawSite_short hlen)

/-! A host without a move. -/

theorem State.hostTurn_of_no_move {s : State} (h : s.pending = []) (idle : Move) : s.hostTurn idle = idle := by
  rw [State.hostTurn, h]

/-- FAULT without a host move is the fault of the step (R142, log entry 3). -/
theorem step_fault_of_no_move {s : State} (hp : s.phase = .fault) (h : s.pending = []) :
    step s = .fault (.streamExhausted s.failPos) := by
  simp only [step, nextMove, hp, State.hostTurn_of_no_move h]

/-- Settles O13: the wait is the case `StepsTo.waits` of a step. -/
theorem hostWithoutMove : Obligations.HostWithoutMove := by
  unfold Obligations.HostWithoutMove
  intro s h
  exact ⟨fun hp => (StepsTo.waits hp h).step, fun hp => step_fault_of_no_move hp h⟩

end Sys2Proof.Machine

/-! PROOFS. Power-on (O46) and the invariants at reset (O47). -/

namespace Sys2Proof.Machine

/-! Power-on. -/

/-- PHASE at power-on (R26, R161), the one value here that the spec gives. -/
@[simp] theorem State.reset_phase : State.reset.phase = .idle := rfl

/-- The history at power-on is the one of a command start (R25; log entry 1). -/
theorem State.lookup_reset (i : BitVec 6) : State.reset.lookup i = Config.emptySlot :=
  (State.lookup_of_hist (t := State.reset) (s := State.reset.initCodec) rfl i).trans (State.reset.lookup_initCodec i)

/-- No host move stands ready at power-on, so the block waits (R161, log entry 4). -/
theorem StepsTo.reset_waits : StepsTo State.reset State.reset := .waits (.inl State.reset_phase) rfl

/-- Settles O46: the wait is the case `StepsTo.waits` of a step. -/
theorem powerOnIsIdle : Obligations.PowerOnIsIdle := by
  unfold Obligations.PowerOnIsIdle
  exact ⟨State.reset_phase, StepsTo.reset_waits.step, rfl, State.lookup_reset, rfl⟩

/-! The invariants at reset. -/

theorem State.reset_ended : State.reset.ended := .inl State.reset_phase

/-- Empty streams with both cursors at 0 have the form (R31, R32). -/
theorem State.reset_streamsWf : State.reset.StreamsWf := ⟨Nat.le_refl 0, rfl⟩

/-- StatusWf says nothing of IDLE, where no command has ended yet. -/
theorem State.statusWf_of_idle {s : State} (h : s.phase = .idle) : s.StatusWf := by
  simp [State.StatusWf, h]

/-- Settles O47: but for the streams, every invariant holds because PHASE is IDLE. -/
theorem resetMeetsInvariants : Obligations.ResetMeetsInvariants := by
  unfold Obligations.ResetMeetsInvariants
  exact ⟨State.reset_streamsWf, State.codecWf_of_ended State.reset_ended, State.loopWf_of_ended State.reset_ended,
    State.statusWf_of_idle State.reset_phase, State.encoderWf_of_ended State.reset_ended,
    State.positionsWf_of_ended State.reset_ended⟩

end Sys2Proof.Machine

/-! PROOFS. A placed table word (O7). -/

namespace Sys2Proof.Machine

/-- The placed state stands where the sequencer reads a record of that kind (log entry 12). -/
theorem State.placeAt_reads (s : State) (site : Site) (bs : List Byte) : (s.placeAt site bs).Reads site := by
  have pixelLeft : (0 : BitVec 64) < 1 := by decide
  have notRaw4 : (3 : Byte) ≠ 4 := by decide
  cases site with
  | header => exact ⟨rfl, rfl⟩
  | chunk => exact ⟨rfl, rfl, pixelLeft, rfl⟩
  | trailer => exact ⟨rfl, rfl⟩
  | raw3 => exact ⟨⟨rfl, rfl, pixelLeft⟩, notRaw4⟩
  | raw4 => exact ⟨⟨rfl, rfl, pixelLeft⟩, rfl⟩

/-- The placed bytes are all unread: the cursor stands at the first of them. -/
@[simp] theorem State.placeAt_ahead (s : State) (site : Site) (bs : List Byte) : (s.placeAt site bs).ahead = bs := by
  cases site <;> rfl

/-- What a table word gives is the decoder's answer on its padded bytes, at the site its length and magic tell. -/
theorem decodeTableWord_eq_some_iff {nbits w : Nat} {i : Instr} :
    decodeTableWord nbits w = some i ↔
      ∃ rest, decode (tableRecord nbits w).1 (padded (tableRecord nbits w).2) = .ok i rest := by
  unfold decodeTableWord
  cases decode (tableRecord nbits w).1 (padded (tableRecord nbits w).2) <;> simp

/-- Settles O7: the placed state reads at the word's site, and the bytes ahead are the ones the word's decoder read. -/
theorem placedTableWordRunsNext : Obligations.PlacedTableWordRunsNext := by
  unfold Obligations.PlacedTableWordRunsNext
  intro s nbits w i h
  obtain ⟨rest, hd⟩ := decodeTableWord_eq_some_iff.mp h
  have hreads : (s.withFetchWord nbits w).Reads (tableRecord nbits w).1 := s.placeAt_reads _ _
  have hahead : (s.withFetchWord nbits w).ahead = padded (tableRecord nbits w).2 := s.placeAt_ahead _ _
  exact step_fetch_ok (nextMove_reads hreads) (hahead ▸ hd)

end Sys2Proof.Machine
